-- ==== Sys2Proof/Word.lean ====
section
/-! DEFINITION. The word types of the MLXD sensor sequencer (spec/00_scope.md R8): bus bytes are 8 bits,
sensor words 16 bits, host registers 32 bits, floating-point patterns at most 64 bits. -/

namespace Sys2Proof

/-- A bus byte or an EEPROM byte (R8, R9). -/
abbrev Byte := BitVec 8

/-- A 16-bit sensor word (R8). -/
abbrev Half := BitVec 16

/-- A 32-bit host register (R8, R61). -/
abbrev Word := BitVec 32

/-- The encoding of one `FP_FORMAT` value: binary64 in all 64 bits, binary32 in the low 32 with zeros above
(spec/10_state.md R32, R36). -/
abbrev Fp := BitVec 64

/-- `BUS_ADDR_BITS`: the width of a bus device address (R7, D11). -/
abbrev Config.busAddrBits : Nat := 7

/-- A bus device address (spec/20_memory.md R60, R68). -/
abbrev BusAddr := BitVec Config.busAddrBits

end Sys2Proof
end

