-- ==== Sys2Proof/Config.lean ====
section
/-! DEFINITION. The implementation parameters of spec/00_scope.md R7 and the free values.

Every constant of R7 is a named configuration field with R7's value as its default. The ones the source settles are the
fields of `SourceParams`, of which the model is built for one value, `Config.source`: the encodings, the widths and the
window map rest on them. The ones the spec leaves OPEN (marks "decision" and "general knowledge" of R7) are the fields
of `Params`; the machine holds one `Params` value that no step changes (log 1). Free values are opaque: nothing can be
proved of one. -/

namespace Sys2Proof

/-! ### The refresh rates -/

/-- The documented refresh rates, in hertz (spec/42_protocol_ops.md R162). -/
inductive Rate where
  | hz512
  | hz256
  | hz128
  | hz64
  | hz32
  | hz16
  | hz8
  | hz4
  | hz2
  | hz1
  | hzHalf
deriving DecidableEq, Repr

/-- The `ARG16` of a documented rate, in units of 0.5 Hz (R162). -/
def Rate.arg16 : Rate → Half
  | .hz512 => 1024#16
  | .hz256 => 512#16
  | .hz128 => 256#16
  | .hz64 => 128#16
  | .hz32 => 64#16
  | .hz16 => 32#16
  | .hz8 => 16#16
  | .hz4 => 8#16
  | .hz2 => 4#16
  | .hz1 => 2#16
  | .hzHalf => 1#16

/-- The documented rates, in the spec's order (R162). -/
def Rate.all : List Rate := [.hz512, .hz256, .hz128, .hz64, .hz32, .hz16, .hz8, .hz4, .hz2, .hz1, .hzHalf]

/-! ### Constants settled by the source (R7) -/

/-- The constants of R7 that the source settles, each with its value as the default. -/
structure SourceParams where
  /-- `N_PIX`: rows of the array. -/
  nRows      : Nat := 4
  /-- `N_PIX`: columns of the array. -/
  nCols      : Nat := 16
  /-- `EE_SIZE`, in bytes. -/
  eeSize     : Nat := 256
  /-- `ADDR_EE`: bus address of the EEPROM unit. -/
  addrEe     : BusAddr := 0x50#7
  /-- `ADDR_REG`: bus address of the configuration, trim, PTAT, CP and IR unit. -/
  addrReg    : BusAddr := 0x60#7
  /-- `BUS_CLK_HZ`. -/
  busClkHz   : Nat := 25000
  /-- `OPC_EE_DUMP`. -/
  opcEeDump  : Byte := 0x00#8
  /-- `OPC_REG_READ`. -/
  opcRegRead : Byte := 0x02#8
  /-- `OPC_CFG_WRITE`. -/
  opcCfgWrite : Byte := 0x03#8
  /-- `OPC_TRIM_WRITE`. -/
  opcTrimWrite : Byte := 0x04#8
  /-- `K_TRIM`: check-byte subtrahend of trim writes. -/
  kTrim      : Byte := 0xAA#8
  /-- `K_CFG`: check-byte subtrahend of configuration writes. -/
  kCfg       : Byte := 0x55#8
  /-- `REG_IR`: first register of the IR read. -/
  regIr      : Byte := 0x00#8
  /-- `REG_IR`: step of the IR read. -/
  irStep     : Byte := 0x01#8
  /-- `REG_IR`: word count of the IR read. -/
  irCount    : Byte := 0x40#8
  /-- `REG_PTAT`. -/
  regPtat    : Byte := 0x90#8
  /-- `REG_CP`. -/
  regCp      : Byte := 0x91#8
  /-- `REG_CFG`. -/
  regCfg     : Byte := 0x92#8
  /-- `A_CFG_L`: EEPROM byte of the configuration LSB. -/
  aCfgL      : Byte := 0xF5#8
  /-- `A_CFG_H`: EEPROM byte of the configuration MSB. -/
  aCfgH      : Byte := 0xF6#8
  /-- `A_TRIM`: EEPROM byte of the oscillator trim. -/
  aTrim      : Byte := 0xF7#8
  /-- `EPS_DIV`. -/
  epsDiv     : Int := 32768
  /-- `TGC_DIV`. -/
  tgcDiv     : Int := 32
  /-- `T_REF`, in degrees Celsius. -/
  tRef       : Int := 25
  /-- `K_KELVIN`, the decimal constant 273.15 = 27315 / 100: its numerator. -/
  kKelvinNum : Int := 27315
  /-- `K_KELVIN`: its denominator. -/
  kKelvinDen : Int := 100
  /-- `ENC_SCALE`, hundredths of a kelvin. -/
  encScale   : Int := 100
  /-- `TA_MAX`, in degrees Celsius. -/
  taMax      : Int := 350
  /-- `INIT_RATE`. -/
  initRate   : Rate := .hz4
  /-- `FALLBACK_RATE`. -/
  fallbackRate : Rate := .hz1
  /-- `POR_BIT`: the bit of the configuration MSB. -/
  porBit     : Nat := 2
deriving DecidableEq, Repr

namespace Config

/-- The source's constants the model is built for: R7's defaults. -/
def source : SourceParams := {}

/-- `N_PIX`: rows of the array. -/
def nRows : Nat := source.nRows
/-- `N_PIX`: columns of the array. -/
def nCols : Nat := source.nCols
/-- `EE_SIZE`, in bytes. -/
def eeSize : Nat := source.eeSize
/-- `ADDR_EE`: bus address of the EEPROM unit. -/
def addrEe : BusAddr := source.addrEe
/-- `ADDR_REG`: bus address of the configuration, trim, PTAT, CP and IR unit. -/
def addrReg : BusAddr := source.addrReg
/-- `BUS_CLK_HZ`. -/
def busClkHz : Nat := source.busClkHz
/-- `OPC_EE_DUMP`. -/
def opcEeDump : Byte := source.opcEeDump
/-- `OPC_REG_READ`. -/
def opcRegRead : Byte := source.opcRegRead
/-- `OPC_CFG_WRITE`. -/
def opcCfgWrite : Byte := source.opcCfgWrite
/-- `OPC_TRIM_WRITE`. -/
def opcTrimWrite : Byte := source.opcTrimWrite
/-- `K_TRIM`: check-byte subtrahend of trim writes. -/
def kTrim : Byte := source.kTrim
/-- `K_CFG`: check-byte subtrahend of configuration writes. -/
def kCfg : Byte := source.kCfg
/-- `REG_IR`: first register of the IR read. -/
def regIr : Byte := source.regIr
/-- `REG_IR`: step of the IR read. -/
def irStep : Byte := source.irStep
/-- `REG_IR`: word count of the IR read. -/
def irCount : Byte := source.irCount
/-- `REG_PTAT`. -/
def regPtat : Byte := source.regPtat
/-- `REG_CP`. -/
def regCp : Byte := source.regCp
/-- `REG_CFG`. -/
def regCfg : Byte := source.regCfg
/-- `A_CFG_L`: EEPROM byte of the configuration LSB. -/
def aCfgL : Byte := source.aCfgL
/-- `A_CFG_H`: EEPROM byte of the configuration MSB. -/
def aCfgH : Byte := source.aCfgH
/-- `A_TRIM`: EEPROM byte of the oscillator trim. -/
def aTrim : Byte := source.aTrim
/-- `EPS_DIV`. -/
def epsDiv : Int := source.epsDiv
/-- `TGC_DIV`. -/
def tgcDiv : Int := source.tgcDiv
/-- `T_REF`, in degrees Celsius. -/
def tRef : Int := source.tRef
/-- `K_KELVIN`, the decimal constant 273.15 = 27315 / 100: its numerator. -/
def kKelvinNum : Int := source.kKelvinNum
/-- `K_KELVIN`: its denominator. -/
def kKelvinDen : Int := source.kKelvinDen
/-- `ENC_SCALE`, hundredths of a kelvin. -/
def encScale : Int := source.encScale
/-- `TA_MAX`, in degrees Celsius. -/
def taMax : Int := source.taMax
/-- `INIT_RATE`. -/
def initRate : Rate := source.initRate
/-- `FALLBACK_RATE`. -/
def fallbackRate : Rate := source.fallbackRate
/-- `POR_BIT`: the bit of the configuration MSB. -/
def porBit : Nat := source.porBit
/-- `N_PIX`. -/
def nPix : Nat := nRows * nCols
/-- `INIT_RATE` in the 0.5 Hz units of `ARG16`: `2 * INIT_RATE` (spec/44_acquisition.md R251). -/
def initRate2 : Half := initRate.arg16

/-! ### Free values -/

/-- The outcome of bus request number `n` when no scripted answer is pending (spec/20_memory.md R67, U9). FREE VALUE. -/
opaque busOk : Nat → Bool

/-- Response byte `k` of bus request number `n` where no scripted answer gives it (R67, U10). FREE VALUE. -/
opaque busByte : Nat → Nat → Byte

/-- What host read number `n` returns where the register is unspecified (spec/10_state.md R49, U1, U2). FREE VALUE. -/
opaque drawWord : Nat → Word

end Config

/-! ### Parameters the spec leaves open -/

/-- `FP_FORMAT`: binary64 by default, binary32 allowed (D20). -/
inductive FpFormat where
  | binary64
  | binary32
deriving DecidableEq, Repr

/-- An 8-bit EEPROM coefficient field: its byte and whether it is read as `s8` or `u8` (R200, D15, D16). -/
structure Field8 where
  off    : Byte
  signed : Bool
deriving DecidableEq, Repr

/-- A 16-bit EEPROM coefficient field `LE16(EE[lo], EE[hi])` and whether it is read as `s16` or `u16` (R200). -/
structure Field16 where
  lo     : Byte
  hi     : Byte
  signed : Bool
deriving DecidableEq, Repr

/-- The EEPROM field map of spec/43_calibration.md R200. The defaults are its table, supplied there from general
knowledge. PRESUMED (log 20). For the per-pixel arrays `off` is the byte of raw pixel 0. -/
structure EeMap where
  ai              : Field8  := { off := 0x00#8, signed := true }
  bi              : Field8  := { off := 0x40#8, signed := true }
  deltaAlpha      : Field8  := { off := 0x80#8, signed := false }
  acp             : Field8  := { off := 0xD4#8, signed := true }
  bcp             : Field8  := { off := 0xD5#8, signed := true }
  alphacp         : Field16 := { lo := 0xD6#8, hi := 0xD7#8, signed := false }
  tgc             : Field8  := { off := 0xD8#8, signed := true }
  biScale         : Field8  := { off := 0xD9#8, signed := false }
  /-- The "common offset scale" byte `A_OFFSCALE`, kept apart from `biScale` (R204, D18). -/
  offScale        : Field8  := { off := 0xD9#8, signed := false }
  vth             : Field16 := { lo := 0xDA#8, hi := 0xDB#8, signed := true }
  kt1             : Field16 := { lo := 0xDC#8, hi := 0xDD#8, signed := true }
  kt2             : Field16 := { lo := 0xDE#8, hi := 0xDF#8, signed := true }
  alpha0          : Field16 := { lo := 0xE0#8, hi := 0xE1#8, signed := false }
  alpha0Scale     : Field8  := { off := 0xE2#8, signed := false }
  deltaAlphaScale : Field8  := { off := 0xE3#8, signed := false }
  eps             : Field16 := { lo := 0xE4#8, hi := 0xE5#8, signed := false }
deriving DecidableEq, Repr

/-- The refresh-rate code table `RATE_CODE` of spec/42_protocol_ops.md R163: the code of each documented rate.
PRESUMED (log 20). -/
structure RateCodes where
  hz512  : BitVec 4 := 0x0#4
  hz256  : BitVec 4 := 0x6#4
  hz128  : BitVec 4 := 0x7#4
  hz64   : BitVec 4 := 0x8#4
  hz32   : BitVec 4 := 0x9#4
  hz16   : BitVec 4 := 0xA#4
  hz8    : BitVec 4 := 0xB#4
  hz4    : BitVec 4 := 0xC#4
  hz2    : BitVec 4 := 0xD#4
  hz1    : BitVec 4 := 0xE#4
  hzHalf : BitVec 4 := 0xF#4
deriving DecidableEq, Repr

/-- The OPEN parameters of R7 with their defaults (log 1). -/
structure Params where
  fpFormat       : FpFormat := .binary64
  eeMap          : EeMap := {}
  /-- `KT1_DIV` = 2^10 (D17). -/
  kt1Div         : Int := 1024
  /-- `KT2_DIV` = 2^20 (D17). -/
  kt2Div         : Int := 1048576
  /-- `RATE_CODE` (D25). -/
  rateCodes      : RateCodes := {}
  /-- `POR_ACTIVE_LEVEL` (D49). -/
  porActiveLevel : Bool := true
  /-- `RETRY_LIMIT`; `none` is unbounded (D38). -/
  retryLimit     : Option Nat := none
  /-- `T_SETTLE_MIN`, in milliseconds (D36). -/
  settleMs       : Nat := 5
  /-- `T_AMB_RETRY_MIN`, in milliseconds (D36). -/
  ambMs          : Nat := 10
  /-- `T_POR_NOM`, in milliseconds (D36). -/
  porMs          : Nat := 1000
  /-- `T_CYCLE_NOM`, in milliseconds (D36). -/
  cycleMs        : Nat := 100
deriving DecidableEq, Repr

end Sys2Proof
end

