-- ==== Sys2Proof/Syntax.lean ====
section
/-! DEFINITION. The instructions: one constructor per row of spec/opcode_table.json, 17 host commands of format
HOSTCMD32 (spec/30_encoding.md R92) and 7 bus frames of format BUSFRAME (R96, spec/41_bus_frames.md). -/

namespace Sys2Proof

/-- The two encodings of spec/30_encoding.md: the host's 32-bit command word and the byte sequence on the bus. -/
inductive Format where
  | hostCmd
  | busFrame
deriving DecidableEq, Repr

/-- An instruction of the block. -/
inductive Instr where
  -- HOSTCMD32 (R92)
  | nop
  | sessionOpen
  | sessionClose
  | readEeprom
  /-- `a`: the trim value `A`. -/
  | writeTrim (a : Byte)
  /-- `a`, `b`: the configuration LSB and MSB. -/
  | writeConfig (a b : Byte)
  | readConfig
  | readPtat
  | readCp
  | readIr
  /-- `arg16`: the rate in units of 0.5 Hz (R95). -/
  | setRefreshRate (arg16 : Half)
  | checkPor
  | computeTa
  | computeFrame
  | init
  | run
  | stop
  -- BUSFRAME (R121 to R129)
  | eeDump
  | cfgRead
  | ptatRead
  | cpRead
  | irRead
  /-- `c`: the check byte of `v`; `v`: the trim value (R128). -/
  | trimWrite (c v : Byte)
  /-- `c`, `d`: the check bytes of the LSB `l` and of the MSB `m` (R129). -/
  | cfgWrite (c l d m : Byte)
deriving DecidableEq, Repr

/-- Which of the two formats an instruction has. -/
def Instr.format : Instr → Format
  | .nop => .hostCmd
  | .sessionOpen => .hostCmd
  | .sessionClose => .hostCmd
  | .readEeprom => .hostCmd
  | .writeTrim _ => .hostCmd
  | .writeConfig _ _ => .hostCmd
  | .readConfig => .hostCmd
  | .readPtat => .hostCmd
  | .readCp => .hostCmd
  | .readIr => .hostCmd
  | .setRefreshRate _ => .hostCmd
  | .checkPor => .hostCmd
  | .computeTa => .hostCmd
  | .computeFrame => .hostCmd
  | .init => .hostCmd
  | .run => .hostCmd
  | .stop => .hostCmd
  | .eeDump => .busFrame
  | .cfgRead => .busFrame
  | .ptatRead => .busFrame
  | .cpRead => .busFrame
  | .irRead => .busFrame
  | .trimWrite _ _ => .busFrame
  | .cfgWrite _ _ _ _ => .busFrame

end Sys2Proof
end

