-- ==== Sys2Proof/WellFormed.lean ====
section
/-! DEFINITION. Which instructions the block builds. Every operand of a host command fills its field, so every host
command is well-formed; a write frame is well-formed exactly when its check bytes agree with its data bytes, the
*well-framed* of spec/41_bus_frames.md R130. -/

namespace Sys2Proof

/-- Well-formedness of an instruction: R130 for the two write frames (`chk(b, K) = (b - K) mod 256`, R127), nothing
to check elsewhere. -/
def Instr.wellFormed : Instr → Bool
  | .trimWrite c v => c == v - Config.kTrim
  | .cfgWrite c l d m => c == l - Config.kCfg && d == m - Config.kCfg
  | .nop => true
  | .sessionOpen => true
  | .sessionClose => true
  | .readEeprom => true
  | .writeTrim _ => true
  | .writeConfig _ _ => true
  | .readConfig => true
  | .readPtat => true
  | .readCp => true
  | .readIr => true
  | .setRefreshRate _ => true
  | .checkPor => true
  | .computeTa => true
  | .computeFrame => true
  | .init => true
  | .run => true
  | .stop => true
  | .eeDump => true
  | .cfgRead => true
  | .ptatRead => true
  | .cpRead => true
  | .irRead => true

end Sys2Proof
end

