-- ==== Sys2Proof/Decode.lean ====
section
/-! DEFINITION. Decoding and encoding of the two formats (spec/30_encoding.md). The decoder is total and rejects by
name; the encoder writes the bytes of an instruction from the same tables. -/

namespace Sys2Proof

/-- Why a command word or a byte sequence is no instruction. -/
inductive DecodeError where
  /-- A command opcode 0x11 to 0xFF (R94). -/
  | reservedOpcode
  /-- A non-zero RSVD field (R94). -/
  | reservedField
  /-- A non-zero field the opcode does not use (R93). -/
  | unusedField
  /-- A command that is not four bytes (R91: there is one length). -/
  | commandLength
  /-- An empty byte sequence, or a first byte that opens no frame (R99). -/
  | frameOpcode
  /-- A length other than the one the first byte decides (R97). -/
  | frameLength
  /-- Field values the block never sends (R99). -/
  | frameFields
deriving DecidableEq, Repr

/-! ### Check bytes -/

/-- The check-byte function `chk(b, K) = (b - K) mod 256` (R127). -/
def chk (b k : Byte) : Byte := b - k

/-- The *well-framed* byte sequences of R130: five bytes, the first 0x03 or 0x04, each check byte that of the data byte
after it. -/
def wellFramed : List Byte → Bool
  | [op, c, l, d, h] =>
    (op == Config.opcCfgWrite && c == chk l Config.kCfg && d == chk h Config.kCfg) ||
      (op == Config.opcTrimWrite && c == chk l Config.kTrim && d == chk h Config.kTrim)
  | _ => false

/-! ### Host commands (R91 to R95) -/

/-- The opcodes without operand (R92). -/
def plainCommand : Nat → Option Instr
  | 0x00 => some .nop
  | 0x01 => some .sessionOpen
  | 0x02 => some .sessionClose
  | 0x03 => some .readEeprom
  | 0x06 => some .readConfig
  | 0x07 => some .readPtat
  | 0x08 => some .readCp
  | 0x09 => some .readIr
  | 0x0B => some .checkPor
  | 0x0C => some .computeTa
  | 0x0D => some .computeFrame
  | 0x0E => some .init
  | 0x0F => some .run
  | 0x10 => some .stop
  | _ => none

/-- `OP = w[7:0]` (R91). -/
def opField (w : Word) : Byte := w.extractLsb' 0 8

/-- `A = w[15:8]` (R91). -/
def aField (w : Word) : Byte := w.extractLsb' 8 8

/-- `B = w[23:16]` (R91). -/
def bField (w : Word) : Byte := w.extractLsb' 16 8

/-- `RSVD = w[31:24]` (R91). -/
def rsvdField (w : Word) : Byte := w.extractLsb' 24 8

/-- `ARG16 = w[23:8]` (R91). -/
def arg16Field (w : Word) : Half := w.extractLsb' 8 16

/-- The command a word stands for, or why it is illegal (R93, R94). -/
def decodeCommand (w : Word) : Except DecodeError Instr :=
  if rsvdField w ≠ 0#8 then .error .reservedField
  else if opField w = 0x04#8 then
    if bField w ≠ 0#8 then .error .unusedField else .ok (.writeTrim (aField w))
  else if opField w = 0x05#8 then .ok (.writeConfig (aField w) (bField w))
  else if opField w = 0x0A#8 then .ok (.setRefreshRate (arg16Field w))
  else match plainCommand (opField w).toNat with
    | none => .error .reservedOpcode
    | some i => if arg16Field w ≠ 0#16 then .error .unusedField else .ok i

/-! ### Bus frames (R96 to R99) -/

/-- The frame a byte sequence is, or why it is none of the seven the block sends (R99). The check bytes are fields
`c`, `d` of the instruction; whether they agree with the data is `Instr.wellFormed` (R130). -/
def decodeFrame : List Byte → Except DecodeError Instr
  | [] => .error .frameOpcode
  | op :: rest =>
    if op = Config.opcEeDump then
      match rest with
      | [] => .ok .eeDump
      | _ => .error .frameLength
    else if op = Config.opcRegRead then
      match rest with
      | [addr, step, count] =>
        if addr = Config.regCfg ∧ step = 0x00#8 ∧ count = 0x01#8 then .ok .cfgRead
        else if addr = Config.regPtat ∧ step = 0x00#8 ∧ count = 0x01#8 then .ok .ptatRead
        else if addr = Config.regCp ∧ step = 0x00#8 ∧ count = 0x01#8 then .ok .cpRead
        else if addr = Config.regIr ∧ step = Config.irStep ∧ count = Config.irCount then .ok .irRead
        else .error .frameFields
      | _ => .error .frameLength
    else if op = Config.opcCfgWrite then
      match rest with
      | [c, l, d, m] => .ok (.cfgWrite c l d m)
      | _ => .error .frameLength
    else if op = Config.opcTrimWrite then
      match rest with
      | [c, v, d, m] =>
        if d = chk 0x00#8 Config.kTrim ∧ m = 0x00#8 then .ok (.trimWrite c v) else .error .frameFields
      | _ => .error .frameLength
    else .error .frameOpcode

/-- The decoder: an instruction of the given format from its bytes, first byte first. A command's four bytes are the
little-endian bytes of its word (spec/20_memory.md R64). -/
def decode : Format → List Byte → Except DecodeError Instr
  | .hostCmd, [b0, b1, b2, b3] => decodeCommand (b3 ++ b2 ++ b1 ++ b0)
  | .hostCmd, _ => .error .commandLength
  | .busFrame, bs => decodeFrame bs

/-! ### The encoder -/

/-- The four fields of a command word, RSVD being 0 (R91). -/
def commandWord (op a b : Byte) : Word := 0x00#8 ++ b ++ a ++ op

/-- The command word of a host command (R92, R95). A bus frame has none: its word is that of NOP here, and no meaning
asks for it. -/
def encodeWord : Instr → Word
  | .nop => commandWord 0x00#8 0#8 0#8
  | .sessionOpen => commandWord 0x01#8 0#8 0#8
  | .sessionClose => commandWord 0x02#8 0#8 0#8
  | .readEeprom => commandWord 0x03#8 0#8 0#8
  | .writeTrim a => commandWord 0x04#8 a 0#8
  | .writeConfig a b => commandWord 0x05#8 a b
  | .readConfig => commandWord 0x06#8 0#8 0#8
  | .readPtat => commandWord 0x07#8 0#8 0#8
  | .readCp => commandWord 0x08#8 0#8 0#8
  | .readIr => commandWord 0x09#8 0#8 0#8
  | .setRefreshRate r => commandWord 0x0A#8 (r.extractLsb' 0 8) (r.extractLsb' 8 8)
  | .checkPor => commandWord 0x0B#8 0#8 0#8
  | .computeTa => commandWord 0x0C#8 0#8 0#8
  | .computeFrame => commandWord 0x0D#8 0#8 0#8
  | .init => commandWord 0x0E#8 0#8 0#8
  | .run => commandWord 0x0F#8 0#8 0#8
  | .stop => commandWord 0x10#8 0#8 0#8
  | .eeDump => 0#32
  | .cfgRead => 0#32
  | .ptatRead => 0#32
  | .cpRead => 0#32
  | .irRead => 0#32
  | .trimWrite _ _ => 0#32
  | .cfgWrite _ _ _ _ => 0#32

/-- The little-endian bytes of a word (R64). -/
def wordBytes (w : Word) : List Byte :=
  [w.extractLsb' 0 8, w.extractLsb' 8 8, w.extractLsb' 16 8, w.extractLsb' 24 8]

/-- The bytes of an instruction, first byte first: a command's word little-endian, a frame as it is handed to the
transport (R121 to R129). -/
def encode : Instr → List Byte
  | .eeDump => [Config.opcEeDump]
  | .cfgRead => [Config.opcRegRead, Config.regCfg, 0x00#8, 0x01#8]
  | .ptatRead => [Config.opcRegRead, Config.regPtat, 0x00#8, 0x01#8]
  | .cpRead => [Config.opcRegRead, Config.regCp, 0x00#8, 0x01#8]
  | .irRead => [Config.opcRegRead, Config.regIr, Config.irStep, Config.irCount]
  | .trimWrite c v => [Config.opcTrimWrite, c, v, chk 0x00#8 Config.kTrim, 0x00#8]
  | .cfgWrite c l d m => [Config.opcCfgWrite, c, l, d, m]
  | .nop => wordBytes (encodeWord .nop)
  | .sessionOpen => wordBytes (encodeWord .sessionOpen)
  | .sessionClose => wordBytes (encodeWord .sessionClose)
  | .readEeprom => wordBytes (encodeWord .readEeprom)
  | .writeTrim a => wordBytes (encodeWord (.writeTrim a))
  | .writeConfig a b => wordBytes (encodeWord (.writeConfig a b))
  | .readConfig => wordBytes (encodeWord .readConfig)
  | .readPtat => wordBytes (encodeWord .readPtat)
  | .readCp => wordBytes (encodeWord .readCp)
  | .readIr => wordBytes (encodeWord .readIr)
  | .setRefreshRate r => wordBytes (encodeWord (.setRefreshRate r))
  | .checkPor => wordBytes (encodeWord .checkPor)
  | .computeTa => wordBytes (encodeWord .computeTa)
  | .computeFrame => wordBytes (encodeWord .computeFrame)
  | .init => wordBytes (encodeWord .init)
  | .run => wordBytes (encodeWord .run)
  | .stop => wordBytes (encodeWord .stop)

/-- The frame TRIM_WRITE of a trim value, check bytes computed (R128). -/
def trimFrame (v : Byte) : Instr := .trimWrite (chk v Config.kTrim) v

/-- The frame CFG_WRITE of a configuration, check bytes computed (R129). -/
def cfgFrame (l m : Byte) : Instr := .cfgWrite (chk l Config.kCfg) l (chk m Config.kCfg) m

/-! ### The opcode table's numbering -/

/-- A row of spec/opcode_table.json of format HOSTCMD32: its mask and its match. -/
structure TableRow where
  mask  : Word
  value : Word
deriving DecidableEq, Repr

/-- The 17 HOSTCMD32 rows of spec/opcode_table.json, in the table's order (R92, R93). -/
def commandTable : List TableRow :=
  [⟨0xFFFFFFFF#32, 0x00#32⟩, ⟨0xFFFFFFFF#32, 0x01#32⟩, ⟨0xFFFFFFFF#32, 0x02#32⟩, ⟨0xFFFFFFFF#32, 0x03#32⟩,
   ⟨0xFFFF00FF#32, 0x04#32⟩, ⟨0xFF0000FF#32, 0x05#32⟩, ⟨0xFFFFFFFF#32, 0x06#32⟩, ⟨0xFFFFFFFF#32, 0x07#32⟩,
   ⟨0xFFFFFFFF#32, 0x08#32⟩, ⟨0xFFFFFFFF#32, 0x09#32⟩, ⟨0xFF0000FF#32, 0x0A#32⟩, ⟨0xFFFFFFFF#32, 0x0B#32⟩,
   ⟨0xFFFFFFFF#32, 0x0C#32⟩, ⟨0xFFFFFFFF#32, 0x0D#32⟩, ⟨0xFFFFFFFF#32, 0x0E#32⟩, ⟨0xFFFFFFFF#32, 0x0F#32⟩,
   ⟨0xFFFFFFFF#32, 0x10#32⟩]

/-- The low `n` bytes of a number, least significant first. -/
def bytesLe : Nat → Nat → List Byte
  | 0, _ => []
  | n + 1, w => BitVec.ofNat 8 w :: bytesLe n (w / 256)

/-- The format of a table number: a 32-bit number whose top byte is 0 is a command word; every other row is a frame,
since no 4-byte frame opens with 0x00 (R97). -/
def tableFormat (nbits w : Nat) : Format :=
  if nbits = 32 ∧ w / 2 ^ 24 % 256 = 0 then .hostCmd else .busFrame

/-- A table number's bytes as the hardware stores them: a command word little-endian (R64); a frame's first byte is
the number's most significant one, as the table's rows are written ("byte 0 = 0x02" of 0x02920001). DEDUCED (log 15). -/
def tableBytes (nbits w : Nat) : List Byte :=
  match tableFormat nbits w with
  | .hostCmd => bytesLe 4 w
  | .busFrame => (bytesLe (nbits / 8) w).reverse

/-- The instruction the decoder reads from a number of spec/opcode_table.json with `nbits` bits. -/
def decodeTableWord (nbits w : Nat) : Option Instr :=
  (decode (tableFormat nbits w) (tableBytes nbits w)).toOption

end Sys2Proof
end

