-- ==== Sys2Proof/Machine/State.lean ====
section
/-! DEFINITION. The state of the MLXD sensor sequencer (spec/10_state.md) as plain data, the outside events, the
reasons a step can stop, and the state after reset (R47, R331). -/

namespace Sys2Proof.Machine

/-! ### Names the spec gives -/

/-- The cause codes of spec/60_exceptions.md R290; the reserved codes 0x0B to 0xFF have no constructor, since the
block never produces them (U8). -/
inductive Cause where
  | none
  | busTransactionFailed
  | calibrationImplausible
  | powerOnReset
  | frameReadFailed
  | illegalCommand
  | commandWhileBusy
  | sessionClosed
  | eepromNotValid
  | dataNotValid
  | stopped
deriving DecidableEq, Repr

/-- The acquisition-loop states of R44; codes 5 to 7 are never produced (U8). -/
inductive LoopState where
  | uninitialized
  | initializing
  | ready
  | faulted
  | halted
deriving DecidableEq, Repr

/-- The wait kinds of spec/70_reset_and_hazards.md R352. -/
inductive WaitKind where
  | settle
  | amb
  | por
  | cycle
deriving DecidableEq, Repr

/-- A bus frame in transmission, the frames of spec/41_bus_frames.md with their data. -/
inductive BusOp where
  | eeDump
  | cfgRead
  | ptatRead
  | cpRead
  | irRead
  | trimWrite (c v : Byte)
  | cfgWrite (c l d m : Byte)
deriving DecidableEq, Repr

/-- What an operation returns: `Ok` or `Fail(c)` (spec/42_protocol_ops.md R153). -/
inductive OpResult where
  | ok
  | fail (c : Cause)
deriving DecidableEq, Repr

/-! ### The sequencer's position (R45, `SEQ`) -/

/-- Who called the initialization sequence: INIT, or a phase of RUN (spec/44_acquisition.md R250, R257, R269). -/
inductive InitCaller where
  | init
  | initPhase
  | faultedPhase
deriving DecidableEq, Repr

/-- Who called a shared operation: its own host command, or the initialization sequence. -/
inductive Caller where
  | command
  | initSeq (i : InitCaller)
deriving DecidableEq, Repr

/-- Which phase of RUN runs the ambient step (R257, R262). -/
inductive AmbientCaller where
  | initPhase
  | cycle
deriving DecidableEq, Repr

/-- Where an operation's result goes: the place of the pseudocode that called it. -/
inductive Cont where
  /-- A protocol command of one operation: `Ok` ends it, `Fail(c)` raises `c`. -/
  | command
  /-- CHECK_POR (R167). -/
  | checkPor
  /-- The read of SetRefreshRate (R164), with the new code. -/
  | rateRead (code : BitVec 4) (k : Caller)
  /-- The write of SetRefreshRate (R164), with the new code. -/
  | rateWrite (code : BitVec 4) (k : Caller)
  /-- The steps of InitSeq (R251). -/
  | initEeprom (i : InitCaller)
  | initTrim (i : InitCaller)
  | initConfig (i : InitCaller)
  | initVerify (i : InitCaller)
  /-- The brown-out check of CYCLE (R263). -/
  | cyclePor
  /-- The PTAT read of the ambient step (R259). -/
  | ambientPtat (a : AmbientCaller)
  /-- The compensation-pixel read of CYCLE (R265). -/
  | cycleCp
  /-- The IR read of CYCLE (R266). -/
  | cycleIr
deriving DecidableEq, Repr

/-- Where the sequencer goes on after a `Warn(c)` (R253, R254, R262). -/
inductive AfterWarn where
  /-- The verification read of InitSeq. -/
  | verify (i : InitCaller)
  /-- The end of InitSeq, the flag counted as observed set. -/
  | initDone (i : InitCaller)
  /-- FAULTED_PHASE. -/
  | faultedPhase
deriving DecidableEq, Repr

/-- The three pauses of RUN (R271). -/
inductive Pause where
  | amb
  | por
  | cycle
deriving DecidableEq, Repr

/-- The sequencer's position: what it does in its next move (R45). The arguments of the running command are latched
here (R90). -/
inductive Seq where
  | idle
  /-- `end` (R296). -/
  | finish
  /-- `raise c` (R296). -/
  | raiseCause (c : Cause)
  /-- `Shutdown(c)` (R272). -/
  | shutdown (c : Cause)
  /-- `CloseSession` (R151). -/
  | closeSession
  /-- `OpenSession` (R150): end an open session. -/
  | openSession (k : Caller)
  /-- `BusBegin()`. -/
  | openBegin (k : Caller)
  /-- `BusSetClk(BUS_CLK_HZ)`. -/
  | openClock (k : Caller)
  /-- `Wait(SETTLE)` about to begin. -/
  | openSettle (k : Caller)
  /-- In `Wait(SETTLE)`, until the timer ends it. -/
  | settling (k : Caller)
  /-- A protocol operation about to check the session and to target the bus (R153). -/
  | op (o : BusOp) (k : Cont)
  /-- A protocol operation that has targeted the bus, its frame not yet with the transport (R77, R153). -/
  | request (o : BusOp) (k : Cont)
  /-- A protocol operation whose frame is with the transport. -/
  | bus (o : BusOp) (k : Cont)
  /-- SetRefreshRate's last line (R164). -/
  | rateCommit (code : BitVec 4) (k : Caller)
  /-- CHECK_POR and INIT reporting a flag observed set (R167, R250). -/
  | porSeen
  /-- `Warn(c)` (R251), then where the sequencer goes on. -/
  | warning (c : Cause) (n : AfterWarn)
  /-- InitSeq has returned `Ok` (R251). -/
  | initDone (i : InitCaller)
  /-- INIT_PHASE (R257). -/
  | initPhase
  /-- `ComputeTa` for COMPUTE_TA (R213). -/
  | computeTa
  /-- `ComputeTa` in the ambient step of RUN (R259). -/
  | ambientTa (a : AmbientCaller)
  /-- AMBIENT_RETRY with its cause (R260). -/
  | ambientRetry (c : Cause)
  /-- CYCLE (R262). -/
  | cycle
  /-- `ComputeFrame` for COMPUTE_FRAME (R228). -/
  | computeFrame
  /-- `ComputeFrame` in CYCLE (R267). -/
  | cycleFrame
  /-- After the frame of CYCLE: `RETRY_CNT <- 0; Wait(CYCLE)` (R262). -/
  | cycleWait
  /-- FAULTED_PHASE (R269). -/
  | faultedPhase
  /-- In a pause of RUN, until the timer ends it. -/
  | pause (p : Pause)
deriving DecidableEq, Repr

/-! ### The outside world -/

/-- An answer of the transport oracle (spec/20_memory.md R66, R67). -/
inductive BusAnswer where
  | fail
  | ok (resp : List Byte)
deriving DecidableEq, Repr

/-- An outside event, or one move granted to the sequencer side (log 2). -/
inductive Input where
  /-- One move of the sequencer, or the end of the wait it is in. -/
  | advance
  /-- `MemRead(addr, width)` (R14). -/
  | hostRead (width : Nat) (addr : BitVec 12)
  /-- `MemWrite(addr, width, v)` (R14). -/
  | hostWrite (width : Nat) (addr : BitVec 12) (v : Word)
  /-- The block's reset event (R330). -/
  | reset
deriving DecidableEq, Repr

/-- An event of the observable trace (R77), and the block's reset as a marker between them. -/
inductive Event where
  | busBegin
  | busEnd
  | busSetAddr (a : BusAddr)
  | busSetClk (hz : Nat)
  /-- `BusWrite(frame)`, answered, and whether it was `OK`. -/
  | busWrite (frame : List Byte) (ok : Bool)
  /-- `BusWriteRead(frame, n)`, answered, and its response, `none` for `FAIL`. -/
  | busWriteRead (frame : List Byte) (n : Nat) (resp : Option (List Byte))
  /-- The request of a frame that a reset of the block cut off before its answer (R330, U24). -/
  | busCut (frame : List Byte)
  /-- `Wait(kind)` with its lower bound in milliseconds (R352). -/
  | wait (k : WaitKind) (minMs : Nat)
  /-- `Emit(frame)` (R229). -/
  | emit (frame : List Byte)
  /-- The block was reset here (R330); no bus event (R332). -/
  | blockReset
deriving DecidableEq, Repr

/-! ### Memory -/

/-- The data stores EE, RAW_IR, OUT_ENC and TEMP as one byte memory keyed by host-window offset (R33 to R36): a list of
cells whose addresses strictly rise and none of which holds the byte an unlisted address reads as. -/
abbrev Memory := List Host.Cell

/-! ### The state -/

/-- The whole state of the block (spec/10_state.md), and the model's own fields, listed last. -/
structure State where
  /-- CMD (R24). -/
  cmd         : Word
  /-- STATUS.BUSY (R25). -/
  busy        : Bool
  /-- STATUS.LOOP_STATE (R44). -/
  loopState   : LoopState
  /-- STATUS.SESSION_OPEN (R25). -/
  sessionOpen : Bool
  /-- STATUS.EE_VALID (R38). -/
  eeValid     : Bool
  /-- STATUS.CFG_VALID (R41). -/
  cfgValid    : Bool
  /-- STATUS.PTAT_VALID (R40). -/
  ptatValid   : Bool
  /-- STATUS.CP_VALID (R40). -/
  cpValid     : Bool
  /-- STATUS.IR_VALID (R40). -/
  irValid     : Bool
  /-- STATUS.TA_VALID (R42). -/
  taValid     : Bool
  /-- STATUS.FRAME_VALID (R43). -/
  frameValid  : Bool
  /-- STATUS.TERM_REQ (R273). -/
  termReq     : Bool
  /-- STATUS.ENC_CLAMPED (R43). -/
  encClamped  : Bool
  /-- STATUS.RATE_VALID (R25). -/
  rateValid   : Bool
  /-- STATUS.LAST_CAUSE (R290). -/
  lastCause   : Cause
  /-- STATUS.BUS_ADDR (R25). -/
  busAddr     : BusAddr
  /-- EVENT[4:0] (R26). -/
  event       : BitVec 5
  /-- IRQ_EN[4:0] (R27). -/
  irqEn       : BitVec 5
  /-- CONFIG.CFG_LSB (R28). -/
  cfgLsb      : Byte
  /-- CONFIG.CFG_MSB (R28). -/
  cfgMsb      : Byte
  /-- CONFIG.RATE_CODE (R28). -/
  rateCode    : BitVec 4
  /-- PTAT[15:0] (R29). -/
  ptat        : Half
  /-- CP[15:0] (R30). -/
  cp          : Half
  /-- FRAME_COUNT (R31). -/
  frameCount  : Word
  /-- TA (R32, R42). -/
  ta          : Fp
  /-- EE, RAW_IR, OUT_ENC and TEMP (R33 to R36). -/
  mem         : Memory
  /-- CUR_OP (R45). -/
  curOp       : Option Byte
  /-- SEQ (R45). -/
  seq         : Seq
  /-- BUS_CLK (R45). -/
  busClk      : Option Nat
  /-- RETRY_CNT (R45). -/
  retryCnt    : Nat
  /-- POR_OBS (R45). -/
  porObs      : Bool
  /-- Model: the implementation parameters (R7); no step changes them (log 1). -/
  params      : Params
  /-- Model: the frame handed to the transport and not yet answered (R72; log 13). -/
  busPort     : Option (List Byte)
  /-- Model: the observable trace (R77), newest event first (log 11). -/
  trace       : List Event
  /-- Model: the outside events still to come, next first (log 2). -/
  inputs      : List Input
  /-- Model: the oracle's next answers (log 4). -/
  answers     : List BusAnswer
  /-- Model: how many bus requests have been answered; the argument of the oracle's free values (log 4). -/
  reqCount    : Nat
  /-- Model: how many host reads have been answered; the argument of the free register values (log 8). -/
  drawCount   : Nat
  /-- Model: the value the last `MemRead` returned (log 21). -/
  hostData    : Word
  /-- Model: CONFIG[15:0] shows the last value read (R342; log 8). -/
  cfgShown    : Bool
  /-- Model: TA has been computed since reset (D54; log 8). -/
  taShown     : Bool
  /-- Model: the value the executing command last gave LAST_CAUSE, which its `end` writes (R296; log 32). -/
  ownCause    : Cause
deriving DecidableEq, Repr

/-! ### How a step can stop -/

/-- Why the machine is stuck. -/
inductive Fault where
  /-- Raised by a host access that is not 32 bits wide, for which the spec gives no step (R61, U4). Safe: the model
  stops where the spec leaves the behaviour unspecified. -/
  | hostAccessWidth
  /-- Raised by a host access at an offset that is no multiple of 4, for which the spec gives no step (R62, U4).
  Safe: as above. -/
  | hostAccessMisaligned
deriving DecidableEq, Repr

/-- Why the model gives no meaning. -/
inductive Refusal where
  /-- Raised by exec for an instruction without a meaning; no arm does. Safe. -/
  | notModelled (mnemonic : String)
  /-- Raised by the bus port for a byte sequence that is none of the seven frames the block sends; what the sensor
  does with it is not in the source (R99). Safe: the sequencer never hands one over. -/
  | frameNeverSent
deriving DecidableEq, Repr

/-! ### Reset -/

/-- The state after reset (R47, R331). The values of `cfgLsb`, `cfgMsb`, `rateCode`, `ptat`, `cp`, `ta` and `mem`, which
the spec leaves unspecified, are a DESIGN CHOICE (log 6, log 7); so are those of the model's own fields (log 21). -/
def State.reset : State where
  cmd         := 0x00000000#32
  busy        := false
  loopState   := .uninitialized
  sessionOpen := false
  eeValid     := false
  cfgValid    := false
  ptatValid   := false
  cpValid     := false
  irValid     := false
  taValid     := false
  frameValid  := false
  termReq     := false
  encClamped  := false
  rateValid   := false
  lastCause   := .none
  busAddr     := 0#7
  event       := 0#5
  irqEn       := 0#5
  cfgLsb      := 0#8
  cfgMsb      := 0#8
  rateCode    := 0#4
  ptat        := 0#16
  cp          := 0#16
  frameCount  := 0#32
  ta          := 0#64
  mem         := []
  curOp       := none
  seq         := .idle
  busClk      := none
  retryCnt    := 0
  porObs      := false
  params      := {}
  busPort     := none
  trace       := []
  inputs      := []
  answers     := []
  reqCount    := 0
  drawCount   := 0
  hostData    := 0#32
  cfgShown    := false
  taShown     := false
  ownCause    := .none

end Sys2Proof.Machine
end

