-- ==== Sys2Proof/Machine/Flags.lean ====
section
/-! DEFINITION. The block's flags: it has no condition codes, its flags are the STATUS and EVENT bits (spec/10_state.md
R48). The codes of their fields, the composed STATUS, EVENT and IRQ_EN words, and the interrupt level. -/

namespace Sys2Proof.Machine

/-- The code of a cause in STATUS.LAST_CAUSE (R290). -/
def causeCode : Cause → Byte
  | .none => 0x00#8
  | .busTransactionFailed => 0x01#8
  | .calibrationImplausible => 0x02#8
  | .powerOnReset => 0x03#8
  | .frameReadFailed => 0x04#8
  | .illegalCommand => 0x05#8
  | .commandWhileBusy => 0x06#8
  | .sessionClosed => 0x07#8
  | .eepromNotValid => 0x08#8
  | .dataNotValid => 0x09#8
  | .stopped => 0x0A#8

/-- The code of a loop state in STATUS.LOOP_STATE (R44). -/
def loopCode : LoopState → BitVec 3
  | .uninitialized => 0#3
  | .initializing => 1#3
  | .ready => 2#3
  | .faulted => 3#3
  | .halted => 4#3

/-- EVENT.DONE (R26). -/
def evDone : BitVec 5 := 0b00001#5
/-- EVENT.ERROR (R26). -/
def evError : BitVec 5 := 0b00010#5
/-- EVENT.FRAME (R26). -/
def evFrame : BitVec 5 := 0b00100#5
/-- EVENT.POR (R26). -/
def evPor : BitVec 5 := 0b01000#5
/-- EVENT.WARN (R26). -/
def evWarn : BitVec 5 := 0b10000#5

/-- STATUS as the host reads it (R25), most significant field first; bits 31 and 15 are reserved and read 0. -/
def State.statusWord (s : State) : Word :=
  0#1 ++ s.busAddr.setWidth 7 ++ causeCode s.lastCause ++ 0#1 ++ BitVec.ofBool s.rateValid ++ BitVec.ofBool s.encClamped ++
    BitVec.ofBool s.termReq ++ BitVec.ofBool s.frameValid ++ BitVec.ofBool s.taValid ++ BitVec.ofBool s.irValid ++
    BitVec.ofBool s.cpValid ++ BitVec.ofBool s.ptatValid ++ BitVec.ofBool s.cfgValid ++ BitVec.ofBool s.eeValid ++
    BitVec.ofBool s.sessionOpen ++ loopCode s.loopState ++ BitVec.ofBool s.busy

/-- EVENT as the host reads it; bits [31:5] read 0 (R26). -/
def State.eventWord (s : State) : Word := s.event.setWidth 32

/-- IRQ_EN as the host reads it; bits [31:5] read 0 (R27). -/
def State.irqEnWord (s : State) : Word := s.irqEn.setWidth 32

/-- The interrupt output, a level (R300). -/
def State.irq (s : State) : Bool := s.event &&& s.irqEn != 0#5

/-- The power-on-reset predicate `PorFlag(msb)`: `POR_BIT` against `POR_ACTIVE_LEVEL`
(spec/42_protocol_ops.md R157). -/
def porFlag (p : Params) (msb : Byte) : Bool := msb.getLsbD Config.porBit == p.porActiveLevel

end Sys2Proof.Machine
end

