-- ==== Sys2Proof/Machine/Float.lean ====
section
/-! DEFINITION. The floating-point operations of spec/00_scope.md R13: correctly rounded IEEE 754 (to nearest, ties to
even) on encodings of `FP_FORMAT`, one canonical NaN, no flags and no traps. Every operation computes exactly on
integers and rounds once, in `roundFp`. -/

namespace Sys2Proof.Machine

/-- Width of the fraction field. -/
def fracBits : FpFormat → Nat
  | .binary64 => 52
  | .binary32 => 23

/-- Width of the exponent field. -/
def expBits : FpFormat → Nat
  | .binary64 => 11
  | .binary32 => 8

/-- The exponent of the least subnormal: `2^-1074` in binary64, `2^-149` in binary32. -/
def minExp : FpFormat → Int
  | .binary64 => -1074
  | .binary32 => -149

/-- The encoding of `+inf` as a number: every exponent bit set. -/
def infCode (f : FpFormat) : Nat := (2 ^ expBits f - 1) * 2 ^ fracBits f

/-- The weight of the sign bit. -/
def signWeight (f : FpFormat) : Nat := 2 ^ (expBits f + fracBits f)

/-- The canonical quiet NaN: sign 0, payload 0 (R13). -/
def fpNaN (f : FpFormat) : Fp := BitVec.ofNat 64 (infCode f + 2 ^ (fracBits f - 1))

/-- A sign and a magnitude code as an encoding. -/
def fpPack (f : FpFormat) (neg : Bool) (code : Nat) : Fp :=
  BitVec.ofNat 64 (if neg then signWeight f + code else code)

/-- An infinity. -/
def fpInf (f : FpFormat) (neg : Bool) : Fp := fpPack f neg (infCode f)

/-- What an encoding stands for; a finite value is `(-1)^neg * m * 2^e`. -/
inductive FpVal where
  | nan
  | inf (neg : Bool)
  | fin (neg : Bool) (m : Nat) (e : Int)
deriving DecidableEq, Repr

/-- Read an encoding. -/
def fpVal (f : FpFormat) (x : Fp) : FpVal :=
  let neg := x.toNat / signWeight f % 2 == 1
  let ex := x.toNat / 2 ^ fracBits f % 2 ^ expBits f
  let fr := x.toNat % 2 ^ fracBits f
  if ex = 2 ^ expBits f - 1 then
    if fr = 0 then .inf neg else .nan
  else if ex = 0 then .fin neg fr (minExp f)
  else .fin neg (2 ^ fracBits f + fr) (minExp f + (ex - 1 : Nat))

/-- `m * 2^k` for an integer `k` as `m` shifted, rounded to an integer to nearest, ties to even. -/
def scaleRne (m : Nat) (k : Int) : Nat :=
  if 0 ≤ k then m * 2 ^ k.toNat
  else
    let w := 2 ^ (-k).toNat
    let q := m / w
    let r := m % w
    if w < 2 * r then q + 1
    else if 2 * r = w then q + q % 2
    else q

/-- The value `(-1)^neg * m * 2^e` rounded to the format, to nearest, ties to even; too large a value becomes an
infinity, and 0 keeps the sign given. -/
def roundFp (f : FpFormat) (neg : Bool) (m : Nat) (e : Int) : Fp :=
  if m = 0 then fpPack f neg 0
  else
    let q := max (minExp f) (e + (Nat.log2 m : Int) - (fracBits f : Int))
    let n := scaleRne m (e - q)
    fpPack f neg (min ((q - minExp f).toNat * 2 ^ fracBits f + n) (infCode f))

/-- `fp(n)`: an integer as a value of the format (R13). -/
def fpInt (f : FpFormat) (n : Int) : Fp := roundFp f (n < 0) n.natAbs 0

/-- `pow2f(n)`: the value `2^n`, `+inf` when it exceeds the largest finite value (R13). -/
def fpPow2 (f : FpFormat) (n : Int) : Fp := roundFp f false 1 n

/-- The sum of two finite values, both on one exponent. -/
def addFinite (f : FpFormat) (na : Bool) (ma : Nat) (ea : Int) (nb : Bool) (mb : Nat) (eb : Int) : Fp :=
  let e := min ea eb
  let va : Int := ma * 2 ^ (ea - e).toNat
  let vb : Int := mb * 2 ^ (eb - e).toNat
  let v := (if na then -va else va) + (if nb then -vb else vb)
  if v = 0 then fpPack f (na && nb) 0 else roundFp f (v < 0) v.natAbs e

/-- The negation of a value; NaN stays NaN. -/
def negVal : FpVal → FpVal
  | .nan => .nan
  | .inf n => .inf (!n)
  | .fin n m e => .fin (!n) m e

/-- The sum of two values. -/
def addVal (f : FpFormat) : FpVal → FpVal → Fp
  | .nan, _ => fpNaN f
  | _, .nan => fpNaN f
  | .inf na, .inf nb => if na = nb then fpInf f na else fpNaN f
  | .inf na, .fin _ _ _ => fpInf f na
  | .fin _ _ _, .inf nb => fpInf f nb
  | .fin na ma ea, .fin nb mb eb => addFinite f na ma ea nb mb eb

/-- `fadd(a, b)` (R13). -/
def fadd (f : FpFormat) (a b : Fp) : Fp := addVal f (fpVal f a) (fpVal f b)

/-- `fsub(a, b)` (R13). -/
def fsub (f : FpFormat) (a b : Fp) : Fp := addVal f (fpVal f a) (negVal (fpVal f b))

/-- The product of two values. -/
def mulVal (f : FpFormat) : FpVal → FpVal → Fp
  | .nan, _ => fpNaN f
  | _, .nan => fpNaN f
  | .inf na, .inf nb => fpInf f (na != nb)
  | .inf na, .fin nb mb _ => if mb = 0 then fpNaN f else fpInf f (na != nb)
  | .fin na ma _, .inf nb => if ma = 0 then fpNaN f else fpInf f (na != nb)
  | .fin na ma ea, .fin nb mb eb => roundFp f (na != nb) (ma * mb) (ea + eb)

/-- `fmul(a, b)` (R13). -/
def fmul (f : FpFormat) (a b : Fp) : Fp := mulVal f (fpVal f a) (fpVal f b)

/-- The quotient of two finite values, the divisor not 0: enough quotient bits that one sticky bit below them rounds
as the exact quotient does. -/
def divFinite (f : FpFormat) (neg : Bool) (ma : Nat) (ea : Int) (mb : Nat) (eb : Int) : Fp :=
  let k := fracBits f + 4 + Nat.log2 mb
  let q := ma * 2 ^ k / mb
  let sticky := if ma * 2 ^ k % mb = 0 then 0 else 1
  roundFp f neg (2 * q + sticky) (ea - eb - (k : Int) - 1)

/-- The quotient of two values. -/
def divVal (f : FpFormat) : FpVal → FpVal → Fp
  | .nan, _ => fpNaN f
  | _, .nan => fpNaN f
  | .inf _, .inf _ => fpNaN f
  | .inf na, .fin nb _ _ => fpInf f (na != nb)
  | .fin na _ _, .inf nb => fpPack f (na != nb) 0
  | .fin na ma ea, .fin nb mb eb =>
    if mb = 0 then (if ma = 0 then fpNaN f else fpInf f (na != nb)) else divFinite f (na != nb) ma ea mb eb

/-- `fdiv(a, b)` (R13). -/
def fdiv (f : FpFormat) (a b : Fp) : Fp := divVal f (fpVal f a) (fpVal f b)

/-- The bits of the integer square root of `n` below `2^i`, from the top one down, added to the root `r` found so far. -/
def isqrtFrom (n : Nat) : Nat → Nat → Nat
  | 0, r => r
  | i + 1, r => isqrtFrom n i (if (r + 2 ^ i) * (r + 2 ^ i) ≤ n then r + 2 ^ i else r)

/-- The integer square root. -/
def isqrt (n : Nat) : Nat := isqrtFrom n (Nat.log2 n / 2 + 1) 0

/-- The square root of `m * 2^e`, `m` not 0: an even exponent, enough root bits, one sticky bit. -/
def sqrtFinite (f : FpFormat) (m : Nat) (e : Int) : Fp :=
  let k := 2 * fracBits f + 8 + (e % 2).toNat
  let w := m * 2 ^ k
  let r := isqrt w
  let sticky := if r * r = w then 0 else 1
  roundFp f false (2 * r + sticky) ((e - (k : Int)) / 2 - 1)

/-- The square root of a value: the non-negative root, `sqrt(-0) = -0`, NaN below zero (spec/43_calibration.md R209). -/
def sqrtVal (f : FpFormat) : FpVal → Fp
  | .nan => fpNaN f
  | .inf n => if n then fpNaN f else fpInf f false
  | .fin n m e => if m = 0 then fpPack f n 0 else if n then fpNaN f else sqrtFinite f m e

/-- `fsqrt(a)` (R13). -/
def fsqrt (f : FpFormat) (a : Fp) : Fp := sqrtVal f (fpVal f a)

/-- `isFinite(a)`: false for NaN and infinities (R13). -/
def fpIsFinite (f : FpFormat) (a : Fp) : Bool :=
  match fpVal f a with
  | .nan => false
  | .inf _ => false
  | .fin _ _ _ => true

/-- `a <= n` for a finite value `a` and an integer `n`; false for NaN and the infinities. -/
def fpFiniteLeInt (f : FpFormat) (a : Fp) (n : Int) : Bool :=
  match fpVal f a with
  | .nan => false
  | .inf _ => false
  | .fin neg m e =>
    let v : Int := if neg then -(m : Int) else m
    if 0 ≤ e then v * 2 ^ e.toNat ≤ n else v ≤ n * 2 ^ (-e).toNat

/-- `round` of spec/43_calibration.md R225: half away from zero, on the exact value `(-1)^neg * m * 2^e`. -/
def roundHalfAway (neg : Bool) (m : Nat) (e : Int) : Int :=
  let k : Nat := if 0 ≤ e then m * 2 ^ e.toNat else (2 * m + 2 ^ (-e).toNat) / (2 * 2 ^ (-e).toNat)
  if neg then -(k : Int) else k

end Sys2Proof.Machine
end

