-- ==== Sys2Proof/Machine/Operands.lean ====
section
/-! DEFINITION. The operand forms: the byte readings of spec/00_scope.md R10, the coefficient accessors over the EEPROM
image (spec/43_calibration.md R200 to R204) and the refresh-rate operand (spec/42_protocol_ops.md R162 to R165). -/

namespace Sys2Proof.Machine

/-! ### Readings of bytes (R10) -/

/-- `LE16(lo, hi) = {hi, lo}` (R10). -/
def le16 (lo hi : Byte) : Half := hi ++ lo

/-- `u8(b)`. -/
def u8 (b : Byte) : Int := b.toNat

/-- `s8(b)`. -/
def s8 (b : Byte) : Int := b.toInt

/-- `u16(w)`. -/
def u16 (w : Half) : Int := w.toNat

/-- `s16(w)`. -/
def s16 (w : Half) : Int := w.toInt

/-! ### Coefficients: a read-only view over the EEPROM image (R39) -/

/-- The EEPROM image as the accessors see it: `EE[a]`. -/
abbrev Image := Byte → Byte

/-- An 8-bit field of the image, `x` bytes past its base: the per-pixel arrays are indexed by the raw index (R202). -/
def read8 (ee : Image) (f : Field8) (x : Nat) : Int :=
  let b := ee (f.off + BitVec.ofNat 8 x)
  if f.signed then s8 b else u8 b

/-- A 16-bit field of the image. -/
def read16 (ee : Image) (f : Field16) : Int :=
  let w := le16 (ee f.lo) (ee f.hi)
  if f.signed then s16 w else u16 w

/-- `ai_f[x]` (R201). -/
def aiF (p : Params) (ee : Image) (x : Nat) : Fp := fpInt p.fpFormat (read8 ee p.eeMap.ai x)
/-- `bi_f[x]` (R201). -/
def biF (p : Params) (ee : Image) (x : Nat) : Fp := fpInt p.fpFormat (read8 ee p.eeMap.bi x)
/-- `da_f[x]` (R201). -/
def daF (p : Params) (ee : Image) (x : Nat) : Fp := fpInt p.fpFormat (read8 ee p.eeMap.deltaAlpha x)
/-- `acp` (R201). -/
def acpF (p : Params) (ee : Image) : Fp := fpInt p.fpFormat (read8 ee p.eeMap.acp 0)
/-- `bcp` (R201). -/
def bcpF (p : Params) (ee : Image) : Fp := fpInt p.fpFormat (read8 ee p.eeMap.bcp 0)
/-- `alphacp` (R201). -/
def alphacpF (p : Params) (ee : Image) : Fp := fpInt p.fpFormat (read16 ee p.eeMap.alphacp)
/-- `tgc` (R201). -/
def tgcF (p : Params) (ee : Image) : Fp := fpInt p.fpFormat (read8 ee p.eeMap.tgc 0)
/-- `bi_scale`: a named coefficient that no stage reads (R204). -/
def biScale (p : Params) (ee : Image) : Int := read8 ee p.eeMap.biScale 0
/-- `off_scale`: the exponent of the fixed byte `A_OFFSCALE` (R204). -/
def offScale (p : Params) (ee : Image) : Int := read8 ee p.eeMap.offScale 0
/-- `a0_scale` (R201). -/
def a0Scale (p : Params) (ee : Image) : Int := read8 ee p.eeMap.alpha0Scale 0
/-- `da_scale` (R201). -/
def daScale (p : Params) (ee : Image) : Int := read8 ee p.eeMap.deltaAlphaScale 0
/-- `vth` (R201). -/
def vthF (p : Params) (ee : Image) : Fp := fpInt p.fpFormat (read16 ee p.eeMap.vth)
/-- `kt1 = KT1 / KT1_DIV` (R201). -/
def kt1F (p : Params) (ee : Image) : Fp :=
  fdiv p.fpFormat (fpInt p.fpFormat (read16 ee p.eeMap.kt1)) (fpInt p.fpFormat p.kt1Div)
/-- `kt2 = KT2 / KT2_DIV` (R201). -/
def kt2F (p : Params) (ee : Image) : Fp :=
  fdiv p.fpFormat (fpInt p.fpFormat (read16 ee p.eeMap.kt2)) (fpInt p.fpFormat p.kt2Div)
/-- `alpha0` (R201). -/
def alpha0F (p : Params) (ee : Image) : Fp := fpInt p.fpFormat (read16 ee p.eeMap.alpha0)
/-- `eps = EPS / EPS_DIV`, not clamped (R201, R203). -/
def epsF (p : Params) (ee : Image) : Fp :=
  fdiv p.fpFormat (fpInt p.fpFormat (read16 ee p.eeMap.eps)) (fpInt p.fpFormat Config.epsDiv)

/-- `K_KELVIN = fpc(273.15)` (R205): 27315 / 100 rounded once. -/
def kKelvinF (f : FpFormat) : Fp := fdiv f (fpInt f Config.kKelvinNum) (fpInt f Config.kKelvinDen)

/-- `T_REF` (R205). -/
def tRefF (f : FpFormat) : Fp := fpInt f Config.tRef

/-! ### The refresh rate (R162 to R165) -/

/-- The documented rate an `ARG16` requests, if it is one (R162). -/
def rateOf (h : Half) : Option Rate := Rate.all.find? fun r => r.arg16 == h

/-- The code the table gives a documented rate (R163). -/
def rateCode (c : RateCodes) : Rate → BitVec 4
  | .hz512 => c.hz512
  | .hz256 => c.hz256
  | .hz128 => c.hz128
  | .hz64 => c.hz64
  | .hz32 => c.hz32
  | .hz16 => c.hz16
  | .hz8 => c.hz8
  | .hz4 => c.hz4
  | .hz2 => c.hz2
  | .hz1 => c.hz1
  | .hzHalf => c.hzHalf

/-- `RateCode(ARG16)`: the code of the documented rate, that of `FALLBACK_RATE` for every other `ARG16` (R162, R163).
Total and pure. -/
def rateCodeOf (p : Params) (h : Half) : BitVec 4 := rateCode p.rateCodes ((rateOf h).getD Config.fallbackRate)

/-- The new configuration LSB of SET_REFRESH_RATE, `{CFG_LSB[7:4], code}` (R165). -/
def rateLsb (lsb : Byte) (code : BitVec 4) : Byte := lsb.extractLsb' 4 4 ++ code

end Sys2Proof.Machine
end

