-- ==== Sys2Proof/Machine/Calibration.lean ====
section
/-! DEFINITION. The temperature compensation pipeline as pure functions of the image, the raw readings and the ambient
temperature (spec/43_calibration.md R206 to R226): stage 1, stages 2 to 7, the remap and the encoding. -/

namespace Sys2Proof.Machine

/-! ### Stage 1: ambient temperature (R206 to R209) -/

/-- `TaFormula(EE, PTAT)`, each line one rounded operation (R207). -/
def taFormula (p : Params) (ee : Image) (ptat : Half) : Fp :=
  let f := p.fpFormat
  let kt1 := kt1F p ee
  let kt2 := kt2F p ee
  let a := fmul f kt1 kt1
  let b := fmul f (fpInt f 4) kt2
  let c := fsub f (vthF p ee) (fpInt f (u16 ptat))
  let e := fmul f b c
  let d := fsub f a e
  let s := fsqrt f d
  let n := fsub f s kt1
  let q := fmul f (fpInt f 2) kt2
  let t1 := fdiv f n q
  fadd f t1 (tRefF f)

/-- `Plausible(t) = isFinite(t) and t <= TA_MAX` (R212). -/
def plausible (f : FpFormat) (t : Fp) : Bool := fpIsFinite f t && fpFiniteLeInt f t Config.taMax

/-! ### Stages 2 to 7 (R214 to R219) -/

/-- `POW4`: two squarings (R219; log 18). -/
def pow4 (f : FpFormat) (x : Fp) : Fp := fmul f (fmul f x x) (fmul f x x)

/-- `ROOT4`: two square roots (R219; log 18). -/
def root4 (f : FpFormat) (x : Fp) : Fp := fsqrt f (fsqrt f x)

/-- `reading - (offset + (slope / 2^off_scale) * (ta - 25))`: the formula stages 2 and 3 share (R214, R215). -/
def offsetComp (p : Params) (ee : Image) (ta : Fp) (reading offset slope : Fp) : Fp :=
  let f := p.fpFormat
  let dta := fsub f ta (tRefF f)
  let sc := fpPow2 f (offScale p ee)
  let u := fdiv f slope sc
  let v := fmul f u dta
  let w := fadd f offset v
  fsub f reading w

/-- Stage 2: `vcp_off` (R214). -/
def vcpOff (p : Params) (ee : Image) (ta : Fp) (cp : Half) : Fp :=
  offsetComp p ee ta (fpInt p.fpFormat (s16 cp)) (acpF p ee) (bcpF p ee)

/-- Stage 3: `vir_off[x]` (R215). -/
def virOff (p : Params) (ee : Image) (ta : Fp) (ir : Half) (x : Nat) : Fp :=
  offsetComp p ee ta (fpInt p.fpFormat (s16 ir)) (aiF p ee x) (biF p ee x)

/-- `g = tgc / 32` (R216). -/
def tgcRatio (p : Params) (ee : Image) : Fp := fdiv p.fpFormat (tgcF p ee) (fpInt p.fpFormat Config.tgcDiv)

/-- Stage 4: `vir_tgc[x] = vir_off[x] - g * vcp_off` (R216). -/
def virTgc (p : Params) (ee : Image) (virOffX vcpOffV : Fp) : Fp :=
  fsub p.fpFormat virOffX (fmul p.fpFormat (tgcRatio p ee) vcpOffV)

/-- Stage 5: `vir_comp[x] = vir_tgc[x] / eps` (R217). -/
def virComp (p : Params) (ee : Image) (virTgcX : Fp) : Fp := fdiv p.fpFormat virTgcX (epsF p ee)

/-- Stage 6: `alpha[x]` (R218). -/
def alphaOf (p : Params) (ee : Image) (x : Nat) : Fp :=
  let f := p.fpFormat
  let pr := fmul f (tgcRatio p ee) (alphacpF p ee)
  let num := fsub f (alpha0F p ee) pr
  let s0 := fpPow2 f (a0Scale p ee)
  let sd := fpPow2 f (daScale p ee)
  let t1 := fdiv f num s0
  let t2 := fdiv f (daF p ee x) sd
  fadd f t1 t2

/-- Stage 7: `to[x]` from `vir_comp[x]` and `alpha[x]` (R219). -/
def objectTemp (f : FpFormat) (ta virCompX alphaX : Fp) : Fp :=
  let tk := fadd f ta (kKelvinF f)
  let k4 := pow4 f tk
  let y := fdiv f virCompX alphaX
  let r := fadd f y k4
  fsub f (root4 f r) (kKelvinF f)

/-- Stages 3 to 7 for one raw pixel, stage 2 done once: `to[x]` (R227). -/
def pixelTemp (p : Params) (ee : Image) (ta vcpOffV : Fp) (ir : Half) (x : Nat) : Fp :=
  objectTemp p.fpFormat ta (virComp p ee (virTgc p ee (virOff p ee ta ir x) vcpOffV)) (alphaOf p ee x)

/-! ### Remap (R222, R223) -/

/-- The raw index of logical pixel `L = i*16 + j`: `x = j*4 + i` (R222). -/
def rawIndex (l : Nat) : Nat := l % Config.nCols * Config.nRows + l / Config.nCols

/-- The logical index of raw pixel `x` (R223). -/
def logicalIndex (x : Nat) : Nat := x % Config.nRows * Config.nCols + x / Config.nRows

/-- `TEMP` of a frame in logical order, from the raw readings `ir x` (R222, R227). -/
def frameTemps (p : Params) (ee : Image) (ta : Fp) (cp : Half) (ir : Nat → Half) : List Fp :=
  (List.range Config.nPix).map fun l =>
    pixelTemp p ee ta (vcpOff p ee ta cp) (ir (rawIndex l)) (rawIndex l)

/-! ### Encoding (R224 to R226) -/

/-- `Enc` on a rounded integer: saturated to 16 bits, with the clamp flag (R226). -/
def encInt (k : Int) : Half × Bool :=
  if k < 0 then (0x0000#16, true)
  else if 65535 < k then (0xFFFF#16, true)
  else (BitVec.ofInt 16 k, false)

/-- `Enc(to)`, `to` being `tob`: the 16-bit value and the clamp flag (R226). -/
def encTemp (f : FpFormat) (tob : Fp) : Half × Bool :=
  match fpVal f (fmul f (fadd f tob (kKelvinF f)) (fpInt f Config.encScale)) with
  | .nan => (0x0000#16, true)
  | .inf neg => if neg then (0x0000#16, true) else (0xFFFF#16, true)
  | .fin neg m e => encInt (roundHalfAway neg m e)

/-- `ENC` of a frame (R222). -/
def frameEncs (f : FpFormat) (temps : List Fp) : List Half := temps.map fun t => (encTemp f t).1

/-- Whether a pixel of the frame clamped (R227). -/
def frameClamped (f : FpFormat) (temps : List Fp) : Bool := temps.any fun t => (encTemp f t).2

end Sys2Proof.Machine
end

