-- ==== Sys2Proof/Machine/Ops.lean ====
section
/-! DEFINITION. The named operations over memory, the host window and the registers; the command end, which is the
block's trap entry (spec/60_exceptions.md R296), and the rejection of a command word (R297), each as ONE shared
operation. There is no return from a trap (R299). -/

namespace Sys2Proof.Machine

/-! ### Memory -/

/-- What an address with no cell reads as. DESIGN CHOICE (log 7). -/
def Memory.unlisted : Byte := 0x00#8

/-- One byte of the memory. -/
def Memory.read : Memory → Nat → Byte
  | [], _ => Memory.unlisted
  | (a, b) :: t, x => if a = x then b else Memory.read t x

/-- The cells of a run of bytes from an address on, none for a byte that an unlisted address reads as. -/
def Memory.cells : Nat → List Byte → Memory
  | _, [] => []
  | a, b :: t => if b = Memory.unlisted then Memory.cells (a + 1) t else (a, b) :: Memory.cells (a + 1) t

/-- The memory with a run of bytes stored from an address on, in one commit; the canonical form is kept. -/
def Memory.writeBlock (m : Memory) (a : Nat) (bs : List Byte) : Memory :=
  m.filter (fun c => c.1 < a) ++ Memory.cells a bs ++ m.filter (fun c => a + bs.length ≤ c.1)

/-- The canonical form: addresses strictly rising, and no entry that reads as an unlisted address does. -/
abbrev Memory.wf (m : Memory) : Prop :=
  m.Pairwise (fun c d => c.1 < d.1) ∧ ∀ c ∈ m, c.2 ≠ Memory.unlisted

/-- The 16-bit element at an address, low byte first (R34, R35). -/
def Memory.read16 (m : Memory) (a : Nat) : Half := le16 (m.read a) (m.read (a + 1))

/-- The 32-bit window word at an address, low byte first (R64). -/
def Memory.read32 (m : Memory) (a : Nat) : Word :=
  m.read (a + 3) ++ m.read (a + 2) ++ m.read (a + 1) ++ m.read a

/-- The offset of EE[0] in the window (R33). -/
def eeBase : Nat := 0x100
/-- The offset of RAW_IR[0] (R34). -/
def irBase : Nat := 0x200
/-- The offset of OUT_ENC[0] (R35). -/
def encBase : Nat := 0x280
/-- The offset of TEMP[0] (R36). -/
def tempBase : Nat := 0x400

/-- The offsets that hold data stores: EE, RAW_IR and OUT_ENC lie side by side, TEMP apart (R23). -/
def isDataOffset (a : Nat) : Bool := (0x100 ≤ a && a < 0x300) || (0x400 ≤ a && a < 0x600)

/-- `EE[a]` (R38). -/
def State.ee (s : State) (a : Byte) : Byte := s.mem.read (eeBase + a.toNat)

/-- `IR[x]`, raw order (R40). -/
def State.ir (s : State) (x : Nat) : Half := s.mem.read16 (irBase + 2 * x)

/-- `ENC[L]`, logical order (R43). -/
def State.enc (s : State) (l : Nat) : Half := s.mem.read16 (encBase + 2 * l)

/-- `TEMP[L]`, logical order, low word first (R36, R43). -/
def State.temp (s : State) (l : Nat) : Fp := s.mem.read32 (tempBase + 8 * l + 4) ++ s.mem.read32 (tempBase + 8 * l)

/-- The little-endian bytes of a 16-bit element. -/
def halfBytes (h : Half) : List Byte := [h.extractLsb' 0 8, h.extractLsb' 8 8]

/-- The little-endian bytes of a 64-bit element. -/
def fpBytes (x : Fp) : List Byte := wordBytes (x.extractLsb' 0 32) ++ wordBytes (x.extractLsb' 32 32)

/-! ### Trace, bus port and oracle -/

/-- Record one event of the trace (R77). -/
def State.record (s : State) (e : Event) : State := { s with trace := e :: s.trace }

/-- The lower bound of a wait kind (R352). -/
def waitMin (p : Params) : WaitKind → Nat
  | .settle => p.settleMs
  | .amb => p.ambMs
  | .por => p.porMs
  | .cycle => p.cycleMs

/-- Begin a `Wait(kind)`: its event, with its lower bound (R352). -/
def State.beginWait (s : State) (k : WaitKind) : State := s.record (.wait k (waitMin s.params k))

/-- A response of exactly `n` bytes: a scripted answer's bytes, the oracle's free bytes where it has none (R66). -/
def fitResponse (req n : Nat) (bs : List Byte) : List Byte :=
  (List.range n).map fun k => bs.getD k (Config.busByte req k)

/-- The oracle's answer to the next request for `n` bytes: `none` is `FAIL` (R67). The next scripted answer decides;
when none is pending, the free values do (log 4). -/
def State.busAnswer (s : State) (n : Nat) : Option (List Byte) :=
  match s.answers with
  | .fail :: _ => none
  | .ok bs :: _ => some (fitResponse s.reqCount n bs)
  | [] => if Config.busOk s.reqCount then some (fitResponse s.reqCount n []) else none

/-- One request has been answered. -/
def State.takeAnswer (s : State) : State := { s with answers := s.answers.tail, reqCount := s.reqCount + 1 }

/-- The frame of a bus operation (R121 to R129). -/
def BusOp.frame : BusOp → Instr
  | .eeDump => .eeDump
  | .cfgRead => .cfgRead
  | .ptatRead => .ptatRead
  | .cpRead => .cpRead
  | .irRead => .irRead
  | .trimWrite c v => .trimWrite c v
  | .cfgWrite c l d m => .cfgWrite c l d m

/-- The bytes of a bus operation's frame. -/
def BusOp.bytes (o : BusOp) : List Byte := encode o.frame

/-- The write operation of a trim value, check bytes computed (R128). -/
def trimOp (v : Byte) : BusOp := .trimWrite (chk v Config.kTrim) v

/-- The write operation of a configuration, check bytes computed (R129). -/
def cfgOp (l m : Byte) : BusOp := .cfgWrite (chk l Config.kCfg) l (chk m Config.kCfg) m

/-- The bus address a frame goes to (R134). -/
def BusOp.target : BusOp → BusAddr
  | .eeDump => Config.addrEe
  | .cfgRead => Config.addrReg
  | .ptatRead => Config.addrReg
  | .cpRead => Config.addrReg
  | .irRead => Config.addrReg
  | .trimWrite _ _ => Config.addrReg
  | .cfgWrite _ _ _ _ => Config.addrReg

/-- The response length of a frame (R133). -/
def BusOp.respLen : BusOp → Nat
  | .eeDump => Config.eeSize
  | .cfgRead => 2
  | .ptatRead => 2
  | .cpRead => 2
  | .irRead => 2 * Config.nPix
  | .trimWrite _ _ => 0
  | .cfgWrite _ _ _ _ => 0

/-- The trace event of a frame's transaction and its answer (R66): a read frame is a `BusWriteRead`, a write frame a
`BusWrite`. -/
def BusOp.event (o : BusOp) (r : Option (List Byte)) : Event :=
  match o with
  | .eeDump => .busWriteRead o.bytes o.respLen r
  | .cfgRead => .busWriteRead o.bytes o.respLen r
  | .ptatRead => .busWriteRead o.bytes o.respLen r
  | .cpRead => .busWriteRead o.bytes o.respLen r
  | .irRead => .busWriteRead o.bytes o.respLen r
  | .trimWrite _ _ => .busWrite o.bytes r.isSome
  | .cfgWrite _ _ _ _ => .busWrite o.bytes r.isSome

/-- Byte `k` of a response. -/
def respByte (bs : List Byte) (k : Nat) : Byte := bs.getD k 0x00#8

/-- What a transaction commits, the response read as its frame decides (R121 to R132, R152 to R161, R166): a successful
read replaces the data and sets its validity bit, a failed one keeps the data and clears the bit; a configuration write
clears CFG_VALID either way (R156); a trim write commits nothing (R154). -/
def commitAnswer (o : BusOp) (r : Option (List Byte)) (s : State) : State :=
  match o, r with
  | .eeDump, some bs => { s with mem := s.mem.writeBlock eeBase bs, eeValid := true }
  | .eeDump, none => { s with eeValid := false }
  | .cfgRead, some bs => { s with cfgLsb := respByte bs 0, cfgMsb := respByte bs 1, cfgValid := true, cfgShown := true }
  | .cfgRead, none => { s with cfgValid := false, cfgShown := false }
  | .ptatRead, some bs => { s with ptat := le16 (respByte bs 0) (respByte bs 1), ptatValid := true }
  | .ptatRead, none => { s with ptatValid := false }
  | .cpRead, some bs => { s with cp := le16 (respByte bs 0) (respByte bs 1), cpValid := true }
  | .cpRead, none => { s with cpValid := false }
  | .irRead, some bs => { s with mem := s.mem.writeBlock irBase bs, irValid := true }
  | .irRead, none => { s with irValid := false }
  | .trimWrite _ _, _ => s
  | .cfgWrite _ _ _ _, _ => { s with cfgValid := false }

/-- The cause of a failed transaction: the IR read has its own (R290, R291). -/
def BusOp.failCause : BusOp → Cause
  | .irRead => .frameReadFailed
  | .eeDump => .busTransactionFailed
  | .cfgRead => .busTransactionFailed
  | .ptatRead => .busTransactionFailed
  | .cpRead => .busTransactionFailed
  | .trimWrite _ _ => .busTransactionFailed
  | .cfgWrite _ _ _ _ => .busTransactionFailed

/-- What an operation returns for its transaction's answer (R153). -/
def BusOp.result (o : BusOp) (r : Option (List Byte)) : OpResult :=
  match r with
  | some _ => .ok
  | none => .fail o.failCause

/-- `BusSetAddr(addr)`, the bus event (R134, R153). STATUS.BUS_ADDR shows the address from the commit of the operation
on (R75; log 10). -/
def State.setAddr (s : State) (o : BusOp) : State := s.record (.busSetAddr o.target)

/-- The answer of a frame's transaction on the bus that is targeted for it, one commit (R72, R75): the oracle's answer
is taken and committed with BUS_ADDR, and the port is free again. -/
def transaction (o : BusOp) (s : State) : State :=
  let r := s.busAnswer o.respLen
  commitAnswer o r ({ s with busAddr := o.target, busPort := none }.record (o.event r)).takeAnswer

/-! ### Taking a trap: command end and rejection -/

/-- How a command ends (R296). -/
inductive CommandEnd where
  /-- `end`. -/
  | normal
  /-- `raise c`. -/
  | raised (c : Cause)
  /-- The shutdown routine with cause `c`. -/
  | shutdown (c : Cause)
deriving DecidableEq, Repr

/-- The LAST_CAUSE a command end writes (R296): a cause it has, else the value `own` that the command last gave it (NONE
from its acceptance on, R90, R274), over the cause of a word rejected while the command ran (R297; log 32). -/
def CommandEnd.lastCause (e : CommandEnd) (own : Cause) : Cause :=
  match e with
  | .normal => own
  | .raised c => c
  | .shutdown c => c

/-- The EVENT bits a command end sets: DONE always, ERROR for a cause, except a shutdown with STOPPED (R296). -/
def CommandEnd.events (e : CommandEnd) : BitVec 5 :=
  match e with
  | .normal => evDone
  | .raised _ => evDone ||| evError
  | .shutdown c => if c = .stopped then evDone else evDone ||| evError

/-- The command end (R296): the last commit of a command. No earlier commit is rolled back. -/
def commandEnd (e : CommandEnd) (s : State) : State :=
  { s with
    lastCause := e.lastCause s.ownCause
    busy := false
    event := s.event ||| e.events
    curOp := none
    seq := .idle
    ownCause := .none }

/-- The rejection of a command word with its cause (R297), which is no value that the running command gives LAST_CAUSE. -/
def rejectWord (c : Cause) (s : State) : State := { s with lastCause := c, event := s.event ||| evError }

/-- `Warn(c)` (spec/44_acquisition.md R251, R293). -/
def warn (c : Cause) (s : State) : State := { s with lastCause := c, ownCause := c, event := s.event ||| evWarn }

/-- LAST_CAUSE and EVENT.POR for a power-on-reset flag observed set (R294). -/
def reportPor (s : State) : State :=
  { s with lastCause := .powerOnReset, ownCause := .powerOnReset, event := s.event ||| evPor }

/-- End the bus session, if one is open (R151, R272). -/
def endSession (s : State) : State :=
  if s.sessionOpen then { s.record .busEnd with sessionOpen := false, busClk := none } else s

/-- The shutdown routine (R272). -/
def shutdown (c : Cause) (s : State) : State :=
  commandEnd (.shutdown c) { endSession s with loopState := .halted, termReq := false, busPort := none }

/-- A termination request that arrived while a command other than RUN was executing: the command has ended, and the
sequencer's next move is the shutdown routine (R273; log 12). -/
def State.stopDeferred (s : State) : Bool := !s.busy && s.termReq

/-! ### Reset -/

/-- The bus events that a reset finds issued and not yet in the trace: the request of the frame an operation has with
the transport (R330, U24; log 11). -/
def cutRequest : Seq → List Event
  | .bus o _ => [.busCut o.bytes]
  | _ => []

/-- The block's reset event (R330, R332): the state of reset; a request that is with the transport stays issued, without
an answer; the parameters, the trace, the outside world's pending events and answers and the counters of the free
values go on (log 21). -/
def blockReset (s : State) : State :=
  { State.reset with
    params := s.params
    trace := .blockReset :: (cutRequest s.seq ++ s.trace)
    inputs := s.inputs
    answers := s.answers
    reqCount := s.reqCount
    drawCount := s.drawCount
    hostData := s.hostData }

/-! ### The host window (R23 to R37, R61 to R64) -/

/-- A 16-bit data register as the host reads it, bits [31:16] reading 0: the free value `d` while it is unspecified
(R29, R30, R49). -/
def halfWord (shown : Bool) (v : Half) (d : Word) : Word := if shown then v.setWidth 32 else (d.setWidth 16).setWidth 32

/-- CONFIG as the host reads it (R28): bits [31:20] read 0; the two parts are unspecified apart from each other
(R49, R342). -/
def State.configWord (s : State) (d : Word) : Word :=
  0#12 ++ (if s.rateValid then s.rateCode else d.extractLsb' 16 4) ++
    (if s.cfgShown then s.cfgMsb ++ s.cfgLsb else d.extractLsb' 0 16)

/-- The validity bit that guards a data offset (R33 to R36). -/
def State.dataShown (s : State) (a : Nat) : Bool :=
  if a < irBase then s.eeValid else if a < encBase then s.irValid else s.frameValid

/-- What `MemRead(a, 4)` returns, `d` being the free value of this read (R23, R37, R49). -/
def State.windowRead (s : State) (a : Nat) (d : Word) : Word :=
  if a = 0x000 then s.cmd
  else if a = 0x004 then s.statusWord
  else if a = 0x008 then s.eventWord
  else if a = 0x00C then s.irqEnWord
  else if a = 0x010 then s.configWord d
  else if a = 0x014 then halfWord s.ptatValid s.ptat d
  else if a = 0x018 then halfWord s.cpValid s.cp d
  else if a = 0x01C then s.frameCount
  else if a = 0x020 then (if s.taShown then s.ta.extractLsb' 0 32 else d)
  else if a = 0x024 then (if s.taShown then s.ta.extractLsb' 32 32 else d)
  else if isDataOffset a then (if s.dataShown a then s.mem.read32 a else d)
  else 0#32

/-- A host read: the value goes to the host, no register changes (R63). -/
def hostRead (a : BitVec 12) (s : State) : State :=
  { s with hostData := s.windowRead a.toNat (Config.drawWord s.drawCount), drawCount := s.drawCount + 1 }

/-- A host write outside CMD (R26, R27, R37): EVENT is write-one-to-clear, IRQ_EN plain, everything else keeps. -/
def hostWrite (a : BitVec 12) (v : Word) (s : State) : State :=
  if a = 0x008#12 then { s with event := s.event &&& ~~~(v.setWidth 5) }
  else if a = 0x00C#12 then { s with irqEn := v.setWidth 5 }
  else s

/-- Why a host access gets no step, if it gets none (R61, R62). -/
def accessFault (width : Nat) (a : BitVec 12) : Option Fault :=
  if width ≠ 4 then some .hostAccessWidth
  else if a.toNat % 4 ≠ 0 then some .hostAccessMisaligned
  else none

/-- The rejection of an illegal word: a word that is not STOP's opcode is rejected as busy first (R90, R297). -/
def rejectIllegal (w : Word) (s : State) : State :=
  rejectWord (if s.busy ∧ opField w ≠ 0x10#8 then .commandWhileBusy else .illegalCommand) s

end Sys2Proof.Machine
end

