-- ==== Sys2Proof/Machine/Sequencer.lean ====
section
/-! DEFINITION. The sequencer: one move at a time through the pseudocode of spec/42_protocol_ops.md,
spec/43_calibration.md and spec/44_acquisition.md. A move is one bus event, one commit of an operation, or the end of a
wait; outside events fall between moves (spec/20_memory.md R75, R76). -/

namespace Sys2Proof.Machine

/-! ### Where an operation's result takes the sequencer (R153) -/

/-- `Fail(c)` out of a fatal step of InitSeq (R252): INIT raises it (R250), RUN shuts down (R257, R269). -/
def initFail (c : Cause) : InitCaller → Seq
  | .init => .raiseCause c
  | .initPhase => .shutdown c
  | .faultedPhase => .shutdown c

/-- `Fail(c)` out of SetRefreshRate: SET_REFRESH_RATE raises it (R164); inside InitSeq it is a warning and the
verification read follows (R253). -/
def rateFail (c : Cause) : Caller → Seq
  | .command => .raiseCause c
  | .initSeq i => .warning c (.verify i)

/-- The sequencer takes an operation's result to the place that called it. -/
def deliver (res : OpResult) (k : Cont) (s : State) : State :=
  match k, res with
  | .command, .ok => { s with seq := .finish }
  | .command, .fail c => { s with seq := .raiseCause c }
  | .checkPor, .ok => { s with seq := if porFlag s.params s.cfgMsb then .porSeen else .finish }
  | .checkPor, .fail c => { s with seq := .raiseCause c }
  | .rateRead code k, .ok => { s with seq := .op (cfgOp (rateLsb s.cfgLsb code) s.cfgMsb) (.rateWrite code k) }
  | .rateRead _ k, .fail c => { s with seq := rateFail c k }
  | .rateWrite code k, .ok => { s with seq := .rateCommit code k }
  | .rateWrite _ k, .fail c => { s with seq := rateFail c k }
  | .initEeprom i, .ok => { s with seq := .op (trimOp (s.ee Config.aTrim)) (.initTrim i) }
  | .initEeprom i, .fail c => { s with seq := initFail c i }
  | .initTrim i, .ok => { s with seq := .op (cfgOp (s.ee Config.aCfgL) (s.ee Config.aCfgH)) (.initConfig i) }
  | .initTrim i, .fail c => { s with seq := initFail c i }
  | .initConfig i, .ok =>
    { s with seq := .op .cfgRead (.rateRead (rateCodeOf s.params Config.initRate2) (.initSeq i)) }
  | .initConfig i, .fail c => { s with seq := initFail c i }
  | .initVerify i, .ok => { s with porObs := porFlag s.params s.cfgMsb, seq := .initDone i }
  | .initVerify i, .fail c => { s with seq := .warning c (.initDone i) }
  | .cyclePor, .ok =>
    { s with seq := if porFlag s.params s.cfgMsb then .faultedPhase else .op .ptatRead (.ambientPtat .cycle) }
  | .cyclePor, .fail c => { s with seq := .warning c .faultedPhase }
  | .ambientPtat a, .ok => { s with seq := .ambientTa a }
  | .ambientPtat _, .fail c => { s with seq := .ambientRetry c }
  | .cycleCp, .ok => { s with seq := .op .irRead .cycleIr }
  | .cycleCp, .fail c => { s with seq := .ambientRetry c }
  | .cycleIr, .ok => { s with seq := .cycleFrame }
  | .cycleIr, .fail _ => { s with seq := .shutdown .frameReadFailed }

/-- A frame's transaction, and its result taken to the operation that sent it (R121 to R129, R153); with no operation
waiting for it, the bus is targeted first (R134; log 13). -/
def transact (o : BusOp) (s : State) : State :=
  let res := o.result (s.busAnswer o.respLen)
  match s.seq with
  | .bus _ k => deliver res k (transaction o s)
  | _ => transaction o (s.setAddr o)

/-- A protocol operation begins (R153): with no session open it fails and issues no bus event; else the bus is
targeted. -/
def beginOp (o : BusOp) (k : Cont) (s : State) : State :=
  if s.sessionOpen then { s.setAddr o with seq := .request o k } else deliver (.fail .sessionClosed) k s

/-- A protocol operation issues its request, the bus event after its `BusSetAddr` (R77): its frame goes to the
transport. -/
def sendFrame (o : BusOp) (k : Cont) (s : State) : State := { s with busPort := some o.bytes, seq := .bus o k }

/-! ### The computations (R210, R227) -/

/-- What `ComputeTa` returns (R210): its preconditions in the order of R303, then the gate. -/
def taResult (s : State) : OpResult :=
  if !s.eeValid then .fail .eepromNotValid
  else if !s.ptatValid then .fail .dataNotValid
  else if plausible s.params.fpFormat (taFormula s.params s.ee s.ptat) then .ok
  else .fail .calibrationImplausible

/-- What `ComputeTa` commits (R210, R212): TA whether plausible or not, and TA_VALID. -/
def commitTa (s : State) : State :=
  if s.eeValid && s.ptatValid then
    let t := taFormula s.params s.ee s.ptat
    { s with ta := t, taShown := true, taValid := plausible s.params.fpFormat t }
  else s

/-- What `ComputeFrame` returns (R227). -/
def frameResult (s : State) : OpResult :=
  if !s.eeValid then .fail .eepromNotValid
  else if !s.taValid || !s.cpValid || !s.irValid then .fail .dataNotValid
  else .ok

/-- The frame `ComputeFrame` computes from the state, `TEMP` in logical order (R227). -/
def State.frame (s : State) : List Fp := frameTemps s.params s.ee s.ta s.cp s.ir

/-- The data of an emission (R229): TEMP, ENC, FRAME_VALID, ENC_CLAMPED and FRAME_COUNT. -/
def commitFrame (temps : List Fp) (s : State) : State :=
  let f := s.params.fpFormat
  { s with
    mem := (s.mem.writeBlock tempBase (temps.flatMap fpBytes)).writeBlock encBase
      ((frameEncs f temps).flatMap halfBytes)
    frameValid := true
    encClamped := frameClamped f temps
    frameCount := s.frameCount + 1#32 }

/-- The 128 bytes of the frame on the output port: OUT_ENC as bytes (R35, R229). -/
def State.frameBytes (s : State) : List Byte := (List.range (2 * Config.nPix)).map fun k => s.mem.read (encBase + k)

/-- The rest of an emission: `Emit(f)`, then EVENT.FRAME, and EVENT.WARN if a pixel clamped (R229, R295). -/
def emitFrame (s : State) : State :=
  let s1 := s.record (.emit s.frameBytes)
  { s1 with event := s1.event ||| (if s1.encClamped then evFrame ||| evWarn else evFrame) }

/-- `Emission` of the frame that `ComputeFrame` computes, one commit, EVENT bits last (R75, R229; log 24). -/
def emission (s : State) : State := emitFrame (commitFrame s.frame s)

/-! ### Retry (R270) -/

/-- `Retry(c)` and the pause that follows it (R260, R269, R270): at the limit the shutdown with `c` comes next, below
it the recovery is counted and the wait begins. -/
def retryThenWait (c : Cause) (w : WaitKind) (p : Pause) (s : State) : State :=
  if s.params.retryLimit.any (fun n => n ≤ s.retryCnt) then { s with seq := .shutdown c }
  else { s.beginWait w with retryCnt := s.retryCnt + 1, seq := .pause p }

/-- The sequencer goes on after a session opening (R150, R251). -/
def afterOpen : Caller → Seq
  | .command => .finish
  | .initSeq i => .op .eeDump (.initEeprom i)

/-- The sequencer goes on after a plausible ambient step (R257, R262); LOOP_STATE <- READY of R261 is the first commit
of CYCLE. -/
def afterAmbient : AmbientCaller → Seq
  | .initPhase => .cycle
  | .cycle => .op .cpRead .cycleCp

/-- The sequencer goes on after a warning (R253, R254, R262). -/
def afterWarn (n : AfterWarn) (s : State) : State :=
  match n with
  | .verify i => { s with seq := .op .cfgRead (.initVerify i) }
  | .initDone i => { s with porObs := true, seq := .initDone i }
  | .faultedPhase => { s with seq := .faultedPhase }

/-- The sequencer goes on after RATE_CODE is committed (R164, R251). -/
def afterRate : Caller → Seq
  | .command => .finish
  | .initSeq i => .op .cfgRead (.initVerify i)

/-- The sequencer goes on after InitSeq (R250, R257, R269). -/
def afterInit (i : InitCaller) (s : State) : State :=
  match i with
  | .init => { s with seq := if s.porObs then .porSeen else .finish }
  | .initPhase => { s with seq := if s.porObs then .faultedPhase else .op .ptatRead (.ambientPtat .initPhase) }
  | .faultedPhase => if s.porObs then { s with seq := .faultedPhase } else { s with loopState := .ready, seq := .cycle }

/-- The end of a pause of RUN: the termination checkpoint, then the phase that follows (R260, R262, R269, R271). -/
def afterPause (p : Pause) (s : State) : State :=
  if s.termReq then { s with seq := .shutdown .stopped }
  else match p with
    | .amb => { s with seq := .initPhase }
    | .por => { s with loopState := .initializing, seq := .openSession (.initSeq .faultedPhase) }
    | .cycle => { s with seq := .cycle }

/-! ### One move -/

/-- One move of the sequencer from its position. -/
def seqStep (s : State) : State :=
  match s.seq with
  | .idle => s
  | .finish => commandEnd .normal s
  | .raiseCause c => commandEnd (.raised c) s
  | .shutdown c => shutdown c s
  | .closeSession => { endSession s with seq := .finish }
  | .openSession k =>
    if s.sessionOpen then { s.record .busEnd with sessionOpen := false, seq := .openBegin k }
    else { s with seq := .openBegin k }
  | .openBegin k => { s.record .busBegin with sessionOpen := true, seq := .openClock k }
  | .openClock k => { s.record (.busSetClk Config.busClkHz) with busClk := some Config.busClkHz, seq := .openSettle k }
  | .openSettle k => { s.beginWait .settle with seq := .settling k }
  | .settling k => { s with seq := afterOpen k }
  | .op o k => beginOp o k s
  | .request o k => sendFrame o k s
  | .bus o _ => transact o s
  | .rateCommit code k => { s with rateCode := code, rateValid := true, seq := afterRate k }
  | .porSeen => { reportPor s with seq := .finish }
  | .warning c n => afterWarn n (warn c s)
  | .initDone i => afterInit i s
  | .initPhase => { s with loopState := .initializing, seq := .openSession (.initSeq .initPhase) }
  | .computeTa =>
    match taResult s with
    | .ok => { commitTa s with seq := .finish }
    | .fail c => { commitTa s with seq := .raiseCause c }
  | .ambientTa a =>
    match taResult s with
    | .ok => { commitTa s with seq := afterAmbient a }
    | .fail c => { commitTa s with seq := .ambientRetry c }
  | .ambientRetry c => retryThenWait c .amb .amb (warn c { s with loopState := .initializing })
  | .cycle => { s with loopState := .ready, seq := .op .cfgRead .cyclePor }
  | .computeFrame =>
    match frameResult s with
    | .ok => { emission s with seq := .finish }
    | .fail c => { s with seq := .raiseCause c }
  | .cycleFrame =>
    match frameResult s with
    | .ok => { emission s with seq := .cycleWait }
    | .fail _ => { s with seq := .cycleWait }
  | .cycleWait => { s.beginWait .cycle with retryCnt := 0, seq := .pause .cycle }
  | .faultedPhase => retryThenWait .powerOnReset .por .por (reportPor { s with loopState := .faulted })
  | .pause p => afterPause p s

/-! ### Running a command -/

/-- Whether the sequencer is in a pause of RUN (R271). -/
def Seq.isPause : Seq → Bool
  | .pause _ => true
  | _ => false

/-- The sequencer gives way: no command executes, or RUN has reached a pause. -/
def State.atRest (s : State) : Bool := !s.busy || s.seq.isPause

/-- The sequencer runs until it gives way or an outside event is due; `advance` grants one move (log 2, log 3). -/
def runSeq : Nat → State → State
  | 0, s => s
  | n + 1, s =>
    if s.atRest then s
    else match s.inputs with
      | [] => runSeq n (seqStep s)
      | .advance :: rest => runSeq n (seqStep { s with inputs := rest })
      | _ => s

/-- More moves than any command makes between two pauses (log 3). -/
def runFuel : Nat := 64

/-- The sequencer takes its next move, which leaves a pause if it is in one, and runs on; with no command executing it
acts on a termination request left by one (R273; log 12), and without a request stays as it is (R333). -/
def resume (s : State) : State :=
  if s.busy then runSeq runFuel (seqStep s)
  else if s.termReq then shutdown .stopped s
  else s

/-- Acceptance of a command word: the arguments are latched in the first position (R90). -/
def accept (w : Word) (first : Seq) (s : State) : State :=
  { s with
    cmd := w
    curOp := some (opField w)
    busy := true
    lastCause := .none
    ownCause := .none
    seq := first }

/-- A legal command word other than STOP is submitted (R90): rejected while busy (R297), else accepted and run. -/
def submit (i : Instr) (first : Seq) (s : State) : State :=
  if s.busy then rejectWord .commandWhileBusy s else runSeq runFuel (accept (encodeWord i) first s)

end Sys2Proof.Machine
end

