-- ==== Sys2Proof/Machine/Compute.lean ====
section
/-! DEFINITION. The host commands of the compensation pipeline (spec/43_calibration.md R213, R228). -/

namespace Sys2Proof.Machine

/-- COMPUTE_TA (R213). -/
def execComputeTa (s : State) : Host.Outcome State Fault Refusal := .next (submit .computeTa .computeTa s)

/-- COMPUTE_FRAME (R228). -/
def execComputeFrame (s : State) : Host.Outcome State Fault Refusal := .next (submit .computeFrame .computeFrame s)

end Sys2Proof.Machine
end

