-- ==== Sys2Proof/Machine/Frames.lean ====
section
/-! DEFINITION. The bus frames (spec/41_bus_frames.md R121 to R129): each is one transaction with its target address,
its answer and the commit its response has; the operation that sent it, if one did, goes on (log 13). -/

namespace Sys2Proof.Machine

/-- EE_DUMP (R121). -/
def execEeDump (s : State) : Host.Outcome State Fault Refusal := .next (transact .eeDump s)

/-- CFG_READ (R123). -/
def execCfgRead (s : State) : Host.Outcome State Fault Refusal := .next (transact .cfgRead s)

/-- PTAT_READ (R124). -/
def execPtatRead (s : State) : Host.Outcome State Fault Refusal := .next (transact .ptatRead s)

/-- CP_READ (R125). -/
def execCpRead (s : State) : Host.Outcome State Fault Refusal := .next (transact .cpRead s)

/-- IR_READ (R126). -/
def execIrRead (s : State) : Host.Outcome State Fault Refusal := .next (transact .irRead s)

/-- TRIM_WRITE (R128). A frame whose check byte is wrong is sent all the same: how the sensor's rejection shows is one
more free answer of the oracle (R130, U11). -/
def execTrimWrite (c v : Byte) (s : State) : Host.Outcome State Fault Refusal := .next (transact (.trimWrite c v) s)

/-- CFG_WRITE (R129); as TRIM_WRITE for wrong check bytes. -/
def execCfgWrite (c l d m : Byte) (s : State) : Host.Outcome State Fault Refusal :=
  .next (transact (.cfgWrite c l d m) s)

end Sys2Proof.Machine
end

