-- ==== Sys2Proof/Machine/Loop.lean ====
section
/-! DEFINITION. The host commands of the acquisition loop: INIT, RUN, STOP (spec/44_acquisition.md R250, R256, R273). -/

namespace Sys2Proof.Machine

/-- INIT (R250): the initialization sequence once. -/
def execInit (s : State) : Host.Outcome State Fault Refusal := .next (submit .init (.openSession (.initSeq .init)) s)

/-- RUN's acceptance commits LOOP_STATE and RETRY_CNT with it (R256). -/
def startRun (s : State) : State :=
  if s.busy then s else { s with loopState := .initializing, retryCnt := 0 }

/-- RUN (R256): the loop, up to its first pause or to the shutdown routine. -/
def execRun (s : State) : Host.Outcome State Fault Refusal := .next (submit .run .initPhase (startRun s))

/-- STOP (R273): idle, the shutdown routine at once; busy, a termination request. Never rejected (R90). -/
def execStop (s : State) : Host.Outcome State Fault Refusal :=
  .next (if s.busy then { s with cmd := encodeWord .stop, termReq := true }
    else shutdown .stopped { s with cmd := encodeWord .stop })

end Sys2Proof.Machine
end

