-- ==== Sys2Proof/Machine/Protocol.lean ====
section
/-! DEFINITION. The host commands of the protocol family (spec/42_protocol_ops.md R152 to R167). -/

namespace Sys2Proof.Machine

/-- READ_EEPROM (R152). -/
def execReadEeprom (s : State) : Host.Outcome State Fault Refusal := .next (submit .readEeprom (.op .eeDump .command) s)

/-- WRITE_TRIM (R154). -/
def execWriteTrim (a : Byte) (s : State) : Host.Outcome State Fault Refusal :=
  .next (submit (.writeTrim a) (.op (trimOp a) .command) s)

/-- WRITE_CONFIG (R156). -/
def execWriteConfig (a b : Byte) (s : State) : Host.Outcome State Fault Refusal :=
  .next (submit (.writeConfig a b) (.op (cfgOp a b) .command) s)

/-- READ_CONFIG (R158). -/
def execReadConfig (s : State) : Host.Outcome State Fault Refusal := .next (submit .readConfig (.op .cfgRead .command) s)

/-- READ_PTAT (R159). -/
def execReadPtat (s : State) : Host.Outcome State Fault Refusal := .next (submit .readPtat (.op .ptatRead .command) s)

/-- READ_CP (R160). -/
def execReadCp (s : State) : Host.Outcome State Fault Refusal := .next (submit .readCp (.op .cpRead .command) s)

/-- READ_IR (R161). -/
def execReadIr (s : State) : Host.Outcome State Fault Refusal := .next (submit .readIr (.op .irRead .command) s)

/-- SET_REFRESH_RATE (R164): the code of the requested rate is latched, then the read-modify-write begins. -/
def execSetRefreshRate (arg16 : Half) (s : State) : Host.Outcome State Fault Refusal :=
  .next (submit (.setRefreshRate arg16) (.op .cfgRead (.rateRead (rateCodeOf s.params arg16) .command)) s)

/-- CHECK_POR (R167). -/
def execCheckPor (s : State) : Host.Outcome State Fault Refusal := .next (submit .checkPor (.op .cfgRead .checkPor) s)

end Sys2Proof.Machine
end

