-- ==== Sys2Proof/Machine/Session.lean ====
section
/-! DEFINITION. The host commands without a bus frame of their own: NOP, SESSION_OPEN, SESSION_CLOSE (spec/42_protocol_ops.md
R150, R151; spec/44_acquisition.md R274). -/

namespace Sys2Proof.Machine

/-- NOP (R274): completes at once. -/
def execNop (s : State) : Host.Outcome State Fault Refusal := .next (submit .nop .finish s)

/-- SESSION_OPEN (R150). -/
def execSessionOpen (s : State) : Host.Outcome State Fault Refusal :=
  .next (submit .sessionOpen (.openSession .command) s)

/-- SESSION_CLOSE (R151). -/
def execSessionClose (s : State) : Host.Outcome State Fault Refusal := .next (submit .sessionClose .closeSession s)

end Sys2Proof.Machine
end

