-- ==== Sys2Proof/Machine/Dispatch.lean ====
section
/-! DEFINITION. The meaning of every instruction: one arm per constructor of Instr. -/

namespace Sys2Proof.Machine

def exec (i : Instr) (s : State) : Host.Outcome State Fault Refusal :=
  match i with
  -- HOSTCMD32
  | .nop => Sys2Proof.Machine.execNop s
  | .sessionOpen => Sys2Proof.Machine.execSessionOpen s
  | .sessionClose => Sys2Proof.Machine.execSessionClose s
  | .readEeprom => Sys2Proof.Machine.execReadEeprom s
  | .writeTrim a => Sys2Proof.Machine.execWriteTrim a s
  | .writeConfig a b => Sys2Proof.Machine.execWriteConfig a b s
  | .readConfig => Sys2Proof.Machine.execReadConfig s
  | .readPtat => Sys2Proof.Machine.execReadPtat s
  | .readCp => Sys2Proof.Machine.execReadCp s
  | .readIr => Sys2Proof.Machine.execReadIr s
  | .setRefreshRate arg16 => Sys2Proof.Machine.execSetRefreshRate arg16 s
  | .checkPor => Sys2Proof.Machine.execCheckPor s
  | .computeTa => Sys2Proof.Machine.execComputeTa s
  | .computeFrame => Sys2Proof.Machine.execComputeFrame s
  | .init => Sys2Proof.Machine.execInit s
  | .run => Sys2Proof.Machine.execRun s
  | .stop => Sys2Proof.Machine.execStop s
  -- BUSFRAME
  | .eeDump => Sys2Proof.Machine.execEeDump s
  | .cfgRead => Sys2Proof.Machine.execCfgRead s
  | .ptatRead => Sys2Proof.Machine.execPtatRead s
  | .cpRead => Sys2Proof.Machine.execCpRead s
  | .irRead => Sys2Proof.Machine.execIrRead s
  | .trimWrite c v => Sys2Proof.Machine.execTrimWrite c v s
  | .cfgWrite c l d m => Sys2Proof.Machine.execCfgWrite c l d m s

end Sys2Proof.Machine
end

