-- ==== Sys2Proof/Machine/Step.lean ====
section
/-! DEFINITION. One step of the block: the next outside event, or one run of the sequencer side. The model fetches at
two places: a command word from a host write to CMD (spec/30_encoding.md R90), a frame from the bus port (R96). -/

namespace Sys2Proof.Machine

/-- A host write to CMD submits the word (R90): a legal word is its instruction, an illegal one is rejected. -/
def submitWord (w : Word) (s : State) : Host.Outcome State Fault Refusal :=
  match decodeCommand w with
  | .ok i => exec i s
  | .error _ => .next (rejectIllegal w s)

/-- An admitted host write: CMD submits, every other offset is a register write (R23, R63). -/
def writeAccess (a : BitVec 12) (v : Word) (s : State) : Host.Outcome State Fault Refusal :=
  if a = 0x000#12 then submitWord v s else .next (hostWrite a v s)

/-- The sequencer side moves: a termination request left by a command comes first (R273), then a frame on the bus port
is one transaction, otherwise the sequencer resumes. -/
def advanceSeq (s : State) : Host.Outcome State Fault Refusal :=
  if s.stopDeferred then .next (resume s)
  else match s.busPort with
    | none => .next (resume s)
    | some bytes =>
      match decodeFrame bytes with
      | .ok i => exec i s
      | .error _ => .refused .frameNeverSent

/-- One step: the next outside event, or a move of the sequencer side when none is due or one is granted (R76). -/
def step (s : State) : Host.Outcome State Fault Refusal :=
  match s.inputs with
  | [] => advanceSeq s
  | .advance :: rest => advanceSeq { s with inputs := rest }
  | .reset :: rest => .next (blockReset { s with inputs := rest })
  | .hostRead width a :: rest =>
    match accessFault width a with
    | some r => .fault r
    | none => .next (hostRead a { s with inputs := rest })
  | .hostWrite width a v :: rest =>
    match accessFault width a with
    | some r => .fault r
    | none => writeAccess a v { s with inputs := rest }

/-- `s` with the instruction of a table number placed where the next step fetches it: a command word as the host's next
write to an idle block's CMD, a frame on the bus port with the sequencer side to move (log 16). -/
def State.withFetchWord (s : State) (nbits w : Nat) : State :=
  match tableFormat nbits w with
  | .hostCmd =>
    { s with
      inputs := .hostWrite 4 0x000#12 (BitVec.ofNat 32 w) :: s.inputs
      busy := false
      curOp := none
      seq := .idle }
  | .busFrame =>
    { s with
      inputs := .advance :: s.inputs
      busPort := some (tableBytes nbits w)
      termReq := s.termReq && s.busy }

end Sys2Proof.Machine
end

