-- ==== Sys2Proof/Machine/Assembler.lean ====
section
/-! DEFINITION. The assembler syntax of host command programs (spec/30_encoding.md R100): a mnemonic and its operands
as numbers. There are no pseudo-instructions (R101). -/

namespace Sys2Proof.Machine

/-- The commands without operand, by mnemonic (R92). -/
def plainMnemonic : String → Option Instr
  | "NOP" => some .nop
  | "SESSION_OPEN" => some .sessionOpen
  | "SESSION_CLOSE" => some .sessionClose
  | "READ_EEPROM" => some .readEeprom
  | "READ_CONFIG" => some .readConfig
  | "READ_PTAT" => some .readPtat
  | "READ_CP" => some .readCp
  | "READ_IR" => some .readIr
  | "CHECK_POR" => some .checkPor
  | "COMPUTE_TA" => some .computeTa
  | "COMPUTE_FRAME" => some .computeFrame
  | "INIT" => some .init
  | "RUN" => some .run
  | "STOP" => some .stop
  | _ => none

/-- An operand as a whole number up to a bound. -/
def natArg (v : ℚ) (max : Nat) : Option Nat :=
  if v.den = 1 ∧ 0 ≤ v.num ∧ v.num ≤ max then some v.num.toNat else none

/-- One assembly line: its command, or an assembly error (R100). A rate is given in hertz and must be a multiple of
0.5 not above 32767.5. -/
def assemble (mnemonic : String) (operands : List ℚ) : Option Instr :=
  match operands with
  | [] => plainMnemonic mnemonic
  | [v] =>
    if mnemonic = "WRITE_TRIM" then (natArg v 255).map fun n => .writeTrim (BitVec.ofNat 8 n)
    else if mnemonic = "SET_REFRESH_RATE" then
      (natArg (2 * v) 65535).map fun n => .setRefreshRate (BitVec.ofNat 16 n)
    else none
  | [l, m] =>
    if mnemonic = "WRITE_CONFIG" then
      (natArg l 255).bind fun a => (natArg m 255).map fun b => .writeConfig (BitVec.ofNat 8 a) (BitVec.ofNat 8 b)
    else none
  | _ => none

end Sys2Proof.Machine
end

