-- ==== Sys2Proof/Safety.lean ====
section
/-! DEFINITION. What counts as a sound state and a safe run, in the terms the statements use: the order of the bus
trace, the agreement of the sequencer with the port and the session, the data a position relies on; the shapes of
the states that commands and frames leave; and the phases of RUN. -/

namespace Sys2Proof.Machine

/-! ### Memory -/

/-- Every listed byte lies in a data store (R23). -/
abbrev State.memMapped (s : State) : Prop := ∀ c ∈ s.mem, isDataOffset c.1 = true

/-! ### The order of bus events (R77) -/

/-- How far a session is, as its bus events show it. -/
inductive BusPhase where
  /-- No session. -/
  | closed
  /-- After `BusBegin`. -/
  | begun
  /-- After `BusSetClk(25000)`. -/
  | clocked
  /-- After `Wait(SETTLE)`: transactions may be issued. -/
  | ready
  /-- After the `BusSetAddr` that targets a transaction. -/
  | targeted (a : BusAddr)
deriving DecidableEq, Repr

/-- The bus address a frame belongs to (R134): EE_DUMP goes to 0x50, every other frame to 0x60. -/
def frameTarget (bytes : List Byte) : BusAddr := if bytes = [0x00#8] then 0x50#7 else 0x60#7

/-- The frames of the shapes F1 and F4, the command part of a `BusWriteRead` (R96). -/
def isReadFrame (bytes : List Byte) : Bool :=
  bytes ∈ [[0x00#8], [0x02#8, 0x92#8, 0x00#8, 0x01#8], [0x02#8, 0x90#8, 0x00#8, 0x01#8],
    [0x02#8, 0x91#8, 0x00#8, 0x01#8], [0x02#8, 0x00#8, 0x01#8, 0x40#8]]

/-- The phase after an event, `none` where the event breaks the order: sessions open as `BusBegin`, `BusSetClk(25000)`,
`Wait(SETTLE)` (R150, R336, R337); every transaction follows the `BusSetAddr` of its own unit (R134, R338), a write
well-framed (R130), a read one of the five read frames (R96, R99); `BusEnd` closes an open session (R151, R272); a reset
comes at any point, a request that it cuts off before it (R330). -/
def busPhaseStep : Event → BusPhase → Option BusPhase
  | .busBegin, .closed => some .begun
  | .busSetClk hz, .begun => if hz = 25000 then some .clocked else none
  | .wait .settle _, .clocked => some .ready
  | .wait .amb _, .ready => some .ready
  | .wait .por _, .ready => some .ready
  | .wait .cycle _, .ready => some .ready
  | .busSetAddr a, .ready => some (.targeted a)
  | .busWrite f _, .targeted a => if a = frameTarget f ∧ wellFramed f then some .ready else none
  | .busWriteRead f _ _, .targeted a => if a = frameTarget f ∧ isReadFrame f then some .ready else none
  | .busCut f, .targeted a => if a = frameTarget f ∧ (isReadFrame f ∨ wellFramed f) then some .ready else none
  | .busEnd, .ready => some .closed
  | .emit _, p => some p
  | .blockReset, _ => some .closed
  | _, _ => none

/-- The phase a trace (newest event first) ends in, `none` where some event broke the order. -/
def busPhase : List Event → Option BusPhase
  | [] => some .closed
  | e :: t => (busPhase t).bind (busPhaseStep e)

/-- The phase the state is in. -/
def State.phase (s : State) : BusPhase :=
  match s.seq with
  | .openBegin _ => .closed
  | .openClock _ => .begun
  | .openSettle _ => .clocked
  | .request o _ => .targeted o.target
  | .bus o _ => .targeted o.target
  | _ => if s.sessionOpen then .ready else .closed

/-! ### Agreement of the sequencer with the rest of the state -/

/-- The frame a position has on the bus port. -/
def Seq.port : Seq → Option (List Byte)
  | .bus o _ => some o.bytes
  | _ => none

/-- A position's frame, if it has one, is well-formed (R130). -/
def Seq.framed : Seq → Bool
  | .op o _ => o.frame.wellFormed
  | .request o _ => o.frame.wellFormed
  | .bus o _ => o.frame.wellFormed
  | _ => true

/-- Whether an operation's place belongs to InitSeq or RUN, which always have a session open (R255). -/
def Cont.inSession : Cont → Bool
  | .command => false
  | .checkPor => false
  | .rateRead _ .command => false
  | .rateWrite _ .command => false
  | _ => true

/-- The positions that the sequencer reaches only with a session open. -/
def Seq.needsSession : Seq → Bool
  | .openClock _ => true
  | .openSettle _ => true
  | .settling _ => true
  | .op _ k => k.inSession
  | .request _ _ => true
  | .bus _ _ => true
  | .rateCommit _ _ => true
  | .warning _ _ => true
  | .initDone _ => true
  | .ambientTa _ => true
  | .ambientRetry _ => true
  | .cycle => true
  | .cycleFrame => true
  | .cycleWait => true
  | .faultedPhase => true
  | .pause _ => true
  | _ => false

/-- The positions that the sequencer reaches only with no session open. -/
def Seq.needsClosed : Seq → Bool
  | .openBegin _ => true
  | _ => false

/-- The positions of a session opening before its clock is set. -/
def Seq.clockDue : Seq → Bool
  | .openClock _ => true
  | _ => false

/-- A sound state: busy exactly while a command executes (R90, R296), the port and the session as the position needs
them, a session's clock at 25 kHz once set (R337), and a trace in the order `busPhaseStep` asks. -/
structure State.Sound (s : State) : Prop where
  busy    : s.busy = !decide (s.seq = .idle)
  curOp   : s.busy = s.curOp.isSome
  port    : s.busPort = s.seq.port
  framed  : s.seq.framed = true
  session : s.seq.needsSession = true → s.sessionOpen = true
  closed  : s.seq.needsClosed = true → s.sessionOpen = false
  clock   : s.sessionOpen = true → s.seq.clockDue = false → s.busClk = some 25000
  phase   : busPhase s.trace = some s.phase

/-! ### The data a position relies on (R49, R267) -/

/-- The frame an operation's place sends. -/
def Cont.sends : Cont → BusOp → Bool
  | .command, _ => true
  | .checkPor, .cfgRead => true
  | .rateRead _ _, .cfgRead => true
  | .rateWrite _ _, .cfgWrite _ _ _ _ => true
  | .initEeprom _, .eeDump => true
  | .initTrim _, .trimWrite _ _ => true
  | .initConfig _, .cfgWrite _ _ _ _ => true
  | .initVerify _, .cfgRead => true
  | .cyclePor, .cfgRead => true
  | .ambientPtat _, .ptatRead => true
  | .cycleCp, .cpRead => true
  | .cycleIr, .irRead => true
  | _, _ => false

/-- The validity bits an operation's place relies on. -/
def Cont.dataReady (s : State) : Cont → Bool
  | .rateRead _ (.initSeq _) => s.eeValid
  | .rateWrite _ (.initSeq _) => s.eeValid
  | .initTrim _ => s.eeValid
  | .initConfig _ => s.eeValid
  | .initVerify _ => s.eeValid
  | .cyclePor => s.eeValid
  | .ambientPtat _ => s.eeValid
  | .cycleCp => s.eeValid && s.taValid
  | .cycleIr => s.eeValid && s.taValid && s.cpValid
  | _ => true

/-- The validity bits the position relies on. -/
def State.dataReady (s : State) : Bool :=
  match s.seq with
  | .op o k => k.sends o && k.dataReady s
  | .request o k => k.sends o && k.dataReady s
  | .bus o k => k.sends o && k.dataReady s
  | .rateCommit _ (.initSeq _) => s.eeValid
  | .warning _ _ => s.eeValid
  | .initDone _ => s.eeValid
  | .ambientTa _ => s.eeValid && s.ptatValid
  | .cycle => s.eeValid
  | .cycleFrame => s.eeValid && s.taValid && s.cpValid && s.irValid
  | .cycleWait => s.eeValid
  | .pause .cycle => s.eeValid
  | _ => true

/-- The plausibility gate as a property of the state: TA_VALID is 1 exactly when TA has been computed and passed
(R212). -/
def State.gated (s : State) : Prop := s.taValid = (s.taShown && plausible s.params.fpFormat s.ta)

/-! ### Emissions (R31, R35, R229) -/

/-- The emissions of a trace since the last reset of the block, newest first. -/
def emissions : List Event → List (List Byte)
  | [] => []
  | .blockReset :: _ => []
  | .emit f :: t => f :: emissions t
  | _ :: t => emissions t

/-- FRAME_COUNT counts the emissions since reset modulo 2^32, and OUT_ENC holds the last emitted frame. -/
def State.emissionsAgree (s : State) : Prop :=
  s.frameCount = BitVec.ofNat 32 (emissions s.trace).length ∧
  ∀ f, (emissions s.trace).head? = some f → f = s.frameBytes

/-! ### Admitted accesses -/

/-- The next outside event, if it is a host access, is 32 bits wide and aligned (R61, R62). -/
def State.admitted (s : State) : Prop :=
  match s.inputs with
  | .hostRead width a :: _ => width = 4 ∧ a.toNat % 4 = 0
  | .hostWrite width a _ :: _ => width = 4 ∧ a.toNat % 4 = 0
  | _ => True

/-! ### Shapes of the states that commands leave -/

/-- No command executes and no outside event is due. -/
abbrev State.quiet (s : State) : Prop := s.busy = false ∧ s.inputs = []

/-- `s` after an accepted command `i` has ended with LAST_CAUSE `c` and the EVENT bits `ev` set (R90, R296). -/
def ended (i : Instr) (c : Cause) (ev : BitVec 5) (s : State) : State :=
  { s with
    cmd := encodeWord i
    lastCause := c
    busy := false
    event := s.event ||| ev
    curOp := none
    seq := .idle
    ownCause := .none }

/-- `s` after one transaction: targeted at `a`, recorded as `e`, its answer taken (R72, R134). -/
def sent (a : BusAddr) (e : Event) (s : State) : State :=
  { s with
    busAddr := a
    busPort := none
    trace := e :: .busSetAddr a :: s.trace
    answers := s.answers.tail
    reqCount := s.reqCount + 1 }

/-- `s` after the transaction of a frame on the port: the operation that waits for it has targeted the bus, and with no
operation waiting it is targeted with the transaction (R134; log 13). -/
def sentFrame (a : BusAddr) (e : Event) (s : State) : State :=
  { sent a e s with
    trace := match s.seq with
      | .bus _ _ => e :: s.trace
      | _ => e :: .busSetAddr a :: s.trace }

/-- The oracle's answer to the `k`-th request from now on, for `n` bytes (R67). -/
def State.answerAt (s : State) (k n : Nat) : Option (List Byte) :=
  ({ s with answers := s.answers.drop k, reqCount := s.reqCount + k } : State).busAnswer n

/-- Executing the frame `i` from `s` leaves `t`, but for the position (and POR_OBS) that the operation waiting for the
frame goes on with; with no operation waiting, both stay. -/
def frameLeaves (i : Instr) (s t : State) : Prop :=
  ∃ q p, exec i s = .next { t with seq := q, porObs := p } ∧
    ((∀ o k, s.seq ≠ .bus o k) → q = s.seq ∧ p = s.porObs)

/-- The EEPROM image a response of 256 bytes makes (R152). -/
def imageOf (e : List Byte) : Image := fun a => e.getD a.toNat 0#8

/-- The raw frame a response of 128 bytes makes (R126, R161). -/
def rawOf (b : List Byte) (x : Nat) : Half := b.getD (2 * x + 1) 0#8 ++ b.getD (2 * x) 0#8

/-- Logical pixel `l` of the frame that the pipeline computes (R222, R227). -/
def pixelOf (p : Params) (ee : Image) (ta : Fp) (cp : Half) (ir : Nat → Half) (l : Nat) : Fp :=
  pixelTemp p ee ta (vcpOff p ee ta cp) (ir (rawIndex l)) (rawIndex l)

/-- `t` holds in TEMP and OUT_ENC the frame whose pixels are `px`, ENC_CLAMPED as they ask, and `f` is its image on the
output port (R222, R226, R229). -/
structure HoldsFrame (t : State) (px : Nat → Fp) (f : List Byte) : Prop where
  temp    : ∀ l < 64, t.temp l = px l
  enc     : ∀ l < 64, t.enc l = (encTemp t.params.fpFormat (px l)).1
  clamped : t.encClamped = true ↔ ∃ l < 64, (encTemp t.params.fpFormat (px l)).2 = true
  length  : f.length = 128
  bytes   : ∀ l < 64, f.getD (2 * l) 0#8 = (t.enc l).extractLsb' 0 8 ∧ f.getD (2 * l + 1) 0#8 = (t.enc l).extractLsb' 8 8

/-- Memory outside TEMP and OUT_ENC is the same in both (R220). -/
def frameMemFrame (m n : Memory) : Prop :=
  ∀ a, ¬ (0x280 ≤ a ∧ a < 0x300) → ¬ (0x400 ≤ a ∧ a < 0x600) → n.read a = m.read a

/-- The session opening's events over a trace, newest first (R150). -/
def openingTrace (s : State) : List Event :=
  .wait .settle s.params.settleMs :: .busSetClk 25000 :: .busBegin ::
    (if s.sessionOpen then .busEnd :: s.trace else s.trace)

/-- RUN executes with a session open and is at the position `q`; no outside event is due and no frame is on the port. -/
structure State.RunsAt (s : State) (q : Seq) : Prop where
  busy    : s.busy = true
  inputs  : s.inputs = []
  port    : s.busPort = none
  session : s.sessionOpen = true
  seq     : s.seq = q

/-! ### The initialization sequence (R251) -/

/-- The bytes of CFG_READ (R123). -/
def cfgReadBytes : List Byte := [0x02#8, 0x92#8, 0x00#8, 0x01#8]

/-- The bytes of the trim write of a value (R128). -/
def trimBytes (v : Byte) : List Byte := [0x04#8, v - 0xAA#8, v, 0x56#8, 0x00#8]

/-- The bytes of a configuration write (R129). -/
def cfgBytes (l m : Byte) : List Byte := [0x03#8, l - 0x55#8, l, m - 0x55#8, m]

/-- `n` is the memory `m` with the image `e` in EE (R152). -/
def HoldsImage (m : Memory) (e : List Byte) (n : Memory) : Prop :=
  ∀ a, n.read a = if 0x100 ≤ a ∧ a < 0x200 then e.getD (a - 0x100) 0#8 else m.read a

/-- The events of an image read, answered `OK`, over a session opening, newest first. -/
def imageTrace (s : State) (e : List Byte) : List Event :=
  .busWriteRead [0x00#8] 256 (some e) :: .busSetAddr 0x50#7 :: openingTrace s

/-- The events up to an answered trim write, newest first. -/
def trimTrace (s : State) (e : List Byte) (ok : Bool) : List Event :=
  .busWrite (trimBytes (e.getD 0xF7 0#8)) ok :: .busSetAddr 0x60#7 :: imageTrace s e

/-- The events up to an answered configuration write, newest first. -/
def configTrace (s : State) (e : List Byte) (ok : Bool) : List Event :=
  .busWrite (cfgBytes (e.getD 0xF5 0#8) (e.getD 0xF6 0#8)) ok :: .busSetAddr 0x60#7 :: trimTrace s e true

/-- The fatal steps of the initialization sequence (R252). -/
inductive FatalStep where
  | eeprom
  | trim
  | config
deriving DecidableEq, Repr

/-- The oracle lets the initialization sequence fail at a fatal step, the image read being `e` (R252). -/
def FatalStep.FailsAt (s : State) (e : List Byte) : FatalStep → Prop
  | .eeprom => s.answerAt 0 256 = none
  | .trim => s.answerAt 0 256 = some e ∧ s.answerAt 1 0 = none
  | .config => s.answerAt 0 256 = some e ∧ (s.answerAt 1 0).isSome = true ∧ s.answerAt 2 0 = none

/-- The memory a failed initialization leaves: the image read before the failing step stays (R252). -/
def FatalStep.Mem (m : Memory) (e : List Byte) (n : Memory) : FatalStep → Prop
  | .eeprom => n = m
  | .trim => HoldsImage m e n
  | .config => HoldsImage m e n

/-- How many requests a failed initialization has issued: the failing step's is the last (R252). -/
def FatalStep.requests : FatalStep → Nat
  | .eeprom => 1
  | .trim => 2
  | .config => 3

/-- The events of a failed initialization, newest first. -/
def FatalStep.trace (s : State) (e : List Byte) : FatalStep → List Event
  | .eeprom => .busWriteRead [0x00#8] 256 none :: .busSetAddr 0x50#7 :: openingTrace s
  | .trim => trimTrace s e false
  | .config => configTrace s e false

/-- `s` after the initialization sequence has failed at a fatal step, memory being `n` (R252). -/
def initFailed (s : State) (e : List Byte) (f : FatalStep) (n : Memory) : State :=
  { s with
    sessionOpen := true
    busClk := some 25000
    busAddr := if f = .eeprom then 0x50#7 else 0x60#7
    busPort := none
    mem := n
    eeValid := decide (f ≠ .eeprom)
    cfgValid := if f = .config then false else s.cfgValid
    answers := s.answers.drop f.requests
    reqCount := s.reqCount + f.requests
    trace := f.trace s e }

/-- How the rate step of the initialization sequence goes, with the configuration `[l, m]` that it reads (R164, R253). -/
inductive RateStep where
  | done (l m : Byte)
  | readFails
  | writeFails (l m : Byte)
deriving DecidableEq, Repr

/-- Whether the rate was set. -/
def RateStep.ok : RateStep → Bool
  | .done _ _ => true
  | .readFails => false
  | .writeFails _ _ => false

/-- The configuration the rate step has read. -/
def RateStep.shadow : RateStep → Option (Byte × Byte)
  | .done l m => some (l, m)
  | .readFails => none
  | .writeFails l m => some (l, m)

/-- How many requests the rate step issues. -/
def RateStep.requests : RateStep → Nat
  | .done _ _ => 2
  | .readFails => 1
  | .writeFails _ _ => 2

/-- The oracle lets the rate step, whose first request is the fourth, go so. -/
def RateStep.Answers (s : State) : RateStep → Prop
  | .done l m => s.answerAt 3 2 = some [l, m] ∧ (s.answerAt 4 0).isSome = true
  | .readFails => s.answerAt 3 2 = none
  | .writeFails l m => s.answerAt 3 2 = some [l, m] ∧ s.answerAt 4 0 = none

/-- The events of the rate step, newest first: the low nibble of the LSB read is the code of 4 Hz in the write (R165). -/
def RateStep.events (code : BitVec 4) : RateStep → List Event
  | .done l m =>
    [.busWrite (cfgBytes (l.extractLsb' 4 4 ++ code) m) true, .busSetAddr 0x60#7,
     .busWriteRead cfgReadBytes 2 (some [l, m]), .busSetAddr 0x60#7]
  | .readFails => [.busWriteRead cfgReadBytes 2 none, .busSetAddr 0x60#7]
  | .writeFails l m =>
    [.busWrite (cfgBytes (l.extractLsb' 4 4 ++ code) m) false, .busSetAddr 0x60#7,
     .busWriteRead cfgReadBytes 2 (some [l, m]), .busSetAddr 0x60#7]

/-- The oracle's answers to an initialization sequence that returns `Ok` (R251): the image `e`, the trim and the
configuration write `OK`, the rate step as `r` says, the verification read's answer `v`. -/
structure InitAnswers (s : State) (e : List Byte) (r : RateStep) (v : Option (Byte × Byte)) : Prop where
  eeprom : s.answerAt 0 256 = some e
  trim   : (s.answerAt 1 0).isSome = true
  config : (s.answerAt 2 0).isSome = true
  rate   : r.Answers s
  verify : s.answerAt (3 + r.requests) 2 = v.map fun c => [c.1, c.2]

/-- POR_OBS after the verification read's answer: the flag read, or set where the read failed (R254). -/
def flagSeen (p : Params) (v : Option (Byte × Byte)) : Bool := v.all fun c => c.2.getLsbD 2 == p.porActiveLevel

/-- The events of an initialization sequence that returns `Ok`, newest first (R251). -/
def initTrace (s : State) (e : List Byte) (r : RateStep) (v : Option (Byte × Byte)) : List Event :=
  [.busWriteRead cfgReadBytes 2 (v.map fun c => [c.1, c.2]), .busSetAddr 0x60#7] ++
    r.events (rateCodeOf s.params 8#16) ++ configTrace s e true

/-- `s` after an initialization sequence that returns `Ok`, memory being `n` (R251, R253, R254); LAST_CAUSE and EVENT of
its warnings apart. -/
def initDone (s : State) (e : List Byte) (r : RateStep) (v : Option (Byte × Byte)) (n : Memory) : State :=
  { s with
    sessionOpen := true
    busClk := some 25000
    busAddr := 0x60#7
    busPort := none
    mem := n
    eeValid := true
    cfgLsb := ((v.or r.shadow).map Prod.fst).getD s.cfgLsb
    cfgMsb := ((v.or r.shadow).map Prod.snd).getD s.cfgMsb
    cfgValid := v.isSome
    cfgShown := v.isSome
    rateCode := if r.ok then rateCodeOf s.params 8#16 else s.rateCode
    rateValid := r.ok || s.rateValid
    porObs := flagSeen s.params v
    answers := s.answers.drop (4 + r.requests)
    reqCount := s.reqCount + (4 + r.requests)
    trace := initTrace s e r v }

/-- The warnings of an initialization sequence that returns `Ok` (R253, R254). -/
def initWarned (r : RateStep) (v : Option (Byte × Byte)) (s : State) : State :=
  { s with
    lastCause := if r.ok && v.isSome then s.lastCause else .busTransactionFailed
    ownCause := if r.ok && v.isSome then s.ownCause else .busTransactionFailed
    event := if r.ok && v.isSome then s.event else s.event ||| evWarn }

/-- `s` after an initialization sequence that returns `Ok`, its warnings included, the image `e` stored in EE (R251 to
R254). -/
def initRan (s : State) (e : List Byte) (r : RateStep) (v : Option (Byte × Byte)) : State :=
  initWarned r v (initDone s e r v (s.mem.writeBlock 0x100 e))

/-! ### The loop (R259, R262) -/

/-- `s` after an ambient step that read `[p0, p1]` and found it plausible (R259). -/
def ambientDone (s : State) (p0 p1 : Byte) : State :=
  { sent 0x60#7 (.busWriteRead [0x02#8, 0x90#8, 0x00#8, 0x01#8] 2 (some [p0, p1])) s with
    ptat := p1 ++ p0
    ptatValid := true
    ta := taFormula s.params s.ee (p1 ++ p0)
    taShown := true
    taValid := true }

/-- What one cycle reads: the configuration, PTAT and CP, low byte first, and the IR frame (R262). -/
structure CycleData where
  cfgL  : Byte
  cfgM  : Byte
  ptat0 : Byte
  ptat1 : Byte
  cp0   : Byte
  cp1   : Byte
  ir    : List Byte

/-- The PTAT a cycle reads (R159). -/
def CycleData.ptat (d : CycleData) : Half := d.ptat1 ++ d.ptat0

/-- The CP a cycle reads (R160). -/
def CycleData.cp (d : CycleData) : Half := d.cp1 ++ d.cp0

/-- The oracle answers the four reads of a cycle, the first being its `k`-th request from now on, with `d`; the flag is
clear (R262, R263). -/
structure CycleAnswers (s : State) (k : Nat) (d : CycleData) : Prop where
  check : s.answerAt k 2 = some [d.cfgL, d.cfgM]
  clear : d.cfgM.getLsbD 2 ≠ s.params.porActiveLevel
  ptat  : s.answerAt (k + 1) 2 = some [d.ptat0, d.ptat1]
  cp    : s.answerAt (k + 2) 2 = some [d.cp0, d.cp1]
  ir    : s.answerAt (k + 3) 128 = some d.ir

/-- `t` is `s` after one whole cycle of RUN that read `d`: every register as read, TA from the cycle's own PTAT, exactly
one frame computed from the image, TA, CP and IR, committed and emitted, and the cycle's pause begun (R262, R264 to
R268). -/
def CycleLeaves (s : State) (d : CycleData) (t : State) : Prop :=
  ∃ f, t = { s with
      loopState := .ready
      seq := .pause .cycle
      retryCnt := 0
      busAddr := 0x60#7
      busPort := none
      mem := t.mem
      cfgLsb := d.cfgL
      cfgMsb := d.cfgM
      cfgValid := true
      cfgShown := true
      ptat := d.ptat
      ptatValid := true
      ta := taFormula s.params s.ee d.ptat
      taShown := true
      taValid := true
      cp := d.cp
      cpValid := true
      irValid := true
      frameValid := true
      encClamped := t.encClamped
      frameCount := s.frameCount + 1#32
      event := s.event ||| (if t.encClamped then evFrame ||| evWarn else evFrame)
      answers := s.answers.drop 4
      reqCount := s.reqCount + 4
      trace :=
        [.wait .cycle s.params.cycleMs, .emit f,
         .busWriteRead [0x02#8, 0x00#8, 0x01#8, 0x40#8] 128 (some d.ir), .busSetAddr 0x60#7,
         .busWriteRead [0x02#8, 0x91#8, 0x00#8, 0x01#8] 2 (some [d.cp0, d.cp1]), .busSetAddr 0x60#7,
         .busWriteRead [0x02#8, 0x90#8, 0x00#8, 0x01#8] 2 (some [d.ptat0, d.ptat1]), .busSetAddr 0x60#7,
         .busWriteRead cfgReadBytes 2 (some [d.cfgL, d.cfgM]), .busSetAddr 0x60#7] ++ s.trace } ∧
    HoldsFrame t (pixelOf s.params s.ee (taFormula s.params s.ee d.ptat) d.cp (rawOf d.ir)) f ∧
    (∀ x < 64, t.ir x = rawOf d.ir x) ∧
    ∀ a, ¬ (0x200 ≤ a ∧ a < 0x300) → ¬ (0x400 ≤ a ∧ a < 0x600) → t.mem.read a = s.mem.read a

/-! ### The phases of RUN (R257 to R270) -/

/-- The ambient step's PTAT read answers `[p0, p1]`, and their TA passes the gate (R212, R259). -/
def AmbientPasses (s : State) (p0 p1 : Byte) : Prop :=
  s.busAnswer 2 = some [p0, p1] ∧ plausible s.params.fpFormat (taFormula s.params s.ee (p1 ++ p0)) = true

/-- How an ambient step fails (R259): its PTAT read does, or the TA of the PTAT it read does not pass the gate. -/
inductive AmbientFailure where
  | read
  | implausible (p0 p1 : Byte)
deriving DecidableEq, Repr

/-- The cause of a failed ambient step (R259). -/
def AmbientFailure.cause : AmbientFailure → Cause
  | .read => .busTransactionFailed
  | .implausible _ _ => .calibrationImplausible

/-- The oracle, and the gate, let the ambient step fail so. -/
def AmbientFailure.Happens (s : State) : AmbientFailure → Prop
  | .read => s.busAnswer 2 = none
  | .implausible p0 p1 =>
    s.busAnswer 2 = some [p0, p1] ∧ plausible s.params.fpFormat (taFormula s.params s.ee (p1 ++ p0)) = false

/-- `s` after a failed ambient step (R166, R212): a failed read clears PTAT_VALID, an implausible TA is stored with
TA_VALID 0. -/
def AmbientFailure.leaves (s : State) : AmbientFailure → State
  | .read => { sent 0x60#7 (.busWriteRead [0x02#8, 0x90#8, 0x00#8, 0x01#8] 2 none) s with ptatValid := false }
  | .implausible p0 p1 => { ambientDone s p0 p1 with taValid := false }

/-- `s` after a cycle's check that read `[l, m]` (R263). -/
def cycleChecked (s : State) (l m : Byte) : State :=
  { sent 0x60#7 (.busWriteRead cfgReadBytes 2 (some [l, m])) s with
    loopState := .ready
    cfgLsb := l
    cfgMsb := m
    cfgValid := true
    cfgShown := true }

/-- `s` after a cycle's check that failed, its warning included (R263). -/
def cycleCheckFailed (s : State) : State :=
  { sent 0x60#7 (.busWriteRead cfgReadBytes 2 none) s with
    loopState := .ready
    cfgValid := false
    cfgShown := false
    lastCause := .busTransactionFailed
    ownCause := .busTransactionFailed
    event := s.event ||| evWarn }

/-- `s` after a CP read that answered `[c0, c1]` (R265). -/
def cpDone (s : State) (c0 c1 : Byte) : State :=
  { sent 0x60#7 (.busWriteRead [0x02#8, 0x91#8, 0x00#8, 0x01#8] 2 (some [c0, c1])) s with
    cp := c1 ++ c0
    cpValid := true }

/-- `s` after a CP read that failed (R265). -/
def cpFailed (s : State) : State :=
  { sent 0x60#7 (.busWriteRead [0x02#8, 0x91#8, 0x00#8, 0x01#8] 2 none) s with cpValid := false }

/-- What a command or a step answers. -/
abbrev Answered := Host.Outcome State Fault Refusal

/-- RUN is at the position `q` in the state `u` within the step, or the execution of RUN, that answers `r`: the phases of
RUN and the ways between them, as R257 to R269 draw them. A way that ends in a pause or in the shutdown routine is the
conclusion of a statement and stands in none of these rules. -/
inductive Reaches : Seq → State → Answered → Prop
  /-- A step that begins there. -/
  | here {s : State} {q : Seq} (h : s.RunsAt q) (hq : q.isPause = false) : Reaches q s (step s)
  /-- RUN is accepted (R256). -/
  | run {s : State} (h : s.quiet) : Reaches .initPhase { s with
      cmd := 0x0000000F#32
      curOp := some 0x0F#8
      busy := true
      lastCause := .none
      ownCause := .none
      loopState := .initializing
      retryCnt := 0 } (exec .run s)
  /-- The pause of an ambient retry ends (R260). -/
  | ambEnds {s : State} (h : s.RunsAt (.pause .amb)) (ht : s.termReq = false) : Reaches .initPhase s (step s)
  /-- The brown-out pause ends (R269). -/
  | porEnds {s : State} (h : s.RunsAt (.pause .por)) (ht : s.termReq = false) :
      Reaches (.openSession (.initSeq .faultedPhase)) { s with loopState := .initializing } (step s)
  /-- The pause of a cycle ends (R262). -/
  | cycleEnds {s : State} (h : s.RunsAt (.pause .cycle)) (ht : s.termReq = false) : Reaches .cycle s (step s)
  /-- INIT_PHASE calls InitSeq (R257). -/
  | initSeq {u : State} {r : Answered} (h : Reaches .initPhase u r) :
      Reaches (.openSession (.initSeq .initPhase)) { u with loopState := .initializing } r
  /-- InitSeq returns `Ok` (R251, R253, R254). -/
  | initDone {u : State} {r : Answered} {i : InitCaller} {e : List Byte} {q : RateStep} {v : Option (Byte × Byte)}
      (h : Reaches (.openSession (.initSeq i)) u r) (ha : InitAnswers u e q v) :
      Reaches (.initDone i) (initRan u e q v) r
  /-- The flag is observed, or counted as, set after an InitSeq of RUN (R258, R269). -/
  | initFaulted {u : State} {r : Answered} {i : InitCaller} (h : Reaches (.initDone i) u r) (hi : i ≠ .init)
      (hf : u.porObs = true) : Reaches .faultedPhase u r
  /-- The flag is clear after INIT_PHASE's InitSeq (R257). -/
  | initAmbient {u : State} {r : Answered} (h : Reaches (.initDone .initPhase) u r) (hf : u.porObs = false) :
      Reaches (.op .ptatRead (.ambientPtat .initPhase)) u r
  /-- The flag is clear after FAULTED_PHASE's InitSeq (R269). -/
  | initRecovered {u : State} {r : Answered} (h : Reaches (.initDone .faultedPhase) u r) (hf : u.porObs = false) :
      Reaches .cycle { u with loopState := .ready } r
  /-- INIT_PHASE's ambient step is plausible (R257, R261). -/
  | initPasses {u : State} {r : Answered} {p0 p1 : Byte} (h : Reaches (.op .ptatRead (.ambientPtat .initPhase)) u r)
      (he : u.eeValid = true) (ha : AmbientPasses u p0 p1) : Reaches .cycle (ambientDone u p0 p1) r
  /-- The cycle's ambient step is plausible (R262, R264). -/
  | cyclePasses {u : State} {r : Answered} {p0 p1 : Byte} (h : Reaches (.op .ptatRead (.ambientPtat .cycle)) u r)
      (he : u.eeValid = true) (ha : AmbientPasses u p0 p1) : Reaches (.op .cpRead .cycleCp) (ambientDone u p0 p1) r
  /-- A failed ambient step (R257, R264). -/
  | ambientFails {u : State} {r : Answered} {a : AmbientCaller} {f : AmbientFailure}
      (h : Reaches (.op .ptatRead (.ambientPtat a)) u r) (he : u.eeValid = true) (ha : f.Happens u) :
      Reaches (.ambientRetry f.cause) (f.leaves u) r
  /-- The cycle's check finds the flag clear (R262, R263). -/
  | checkClear {u : State} {r : Answered} {l m : Byte} (h : Reaches .cycle u r) (ha : u.busAnswer 2 = some [l, m])
      (hf : m.getLsbD 2 ≠ u.params.porActiveLevel) : Reaches (.op .ptatRead (.ambientPtat .cycle)) (cycleChecked u l m) r
  /-- The cycle's check finds the flag set (R263). -/
  | checkSet {u : State} {r : Answered} {l m : Byte} (h : Reaches .cycle u r) (ha : u.busAnswer 2 = some [l, m])
      (hf : m.getLsbD 2 = u.params.porActiveLevel) : Reaches .faultedPhase (cycleChecked u l m) r
  /-- The cycle's check fails (R263). -/
  | checkFails {u : State} {r : Answered} (h : Reaches .cycle u r) (ha : u.busAnswer 2 = none) :
      Reaches .faultedPhase (cycleCheckFailed u) r
  /-- The CP read succeeds (R265). -/
  | cpRead {u : State} {r : Answered} {c0 c1 : Byte} (h : Reaches (.op .cpRead .cycleCp) u r)
      (ha : u.busAnswer 2 = some [c0, c1]) : Reaches (.op .irRead .cycleIr) (cpDone u c0 c1) r
  /-- The CP read fails (R265). -/
  | cpFails {u : State} {r : Answered} (h : Reaches (.op .cpRead .cycleCp) u r) (ha : u.busAnswer 2 = none) :
      Reaches (.ambientRetry .busTransactionFailed) (cpFailed u) r

/-- `r` is what a recovery of RUN with cause `c` does from `u` (R260, R269, R270), its report LOOP_STATE `l` and the EVENT
bits `ev`: below the retry limit it is counted and the pause `p` begins with the wait `w`; at the limit the shutdown
routine ends RUN with `c`. -/
def Recovers (c : Cause) (l : LoopState) (ev : BitVec 5) (p : Pause) (w : Event) (u : State) (r : Answered) : Prop :=
  ((∀ n, u.params.retryLimit = some n → u.retryCnt < n) →
    r = .next { u with
      loopState := l
      lastCause := c
      ownCause := c
      event := u.event ||| ev
      retryCnt := u.retryCnt + 1
      seq := .pause p
      trace := w :: u.trace }) ∧
  (∀ n, u.params.retryLimit = some n → n ≤ u.retryCnt → c ≠ .stopped →
    r = .next { u with
      loopState := .halted
      lastCause := c
      ownCause := .none
      busy := false
      event := u.event ||| (ev ||| evDone ||| evError)
      curOp := none
      seq := .idle
      termReq := false
      sessionOpen := false
      busClk := none
      trace := .busEnd :: u.trace })

/-! ### Rounding (R13) -/

/-- The value of a finite encoding. -/
def finVal (neg : Bool) (m : Nat) (e : Int) : ℚ := (if neg then -1 else 1) * m * 2 ^ e

/-- The least magnitude that rounds to an infinity: halfway between the largest finite value and the next power of two. -/
def overflowBound (f : FpFormat) : ℚ := (2 ^ (fracBits f + 1) - 1 / 2) * 2 ^ (minExp f + 2 ^ expBits f - 3)

/-- `r` is the real number `v`, not 0, rounded to the format to nearest, ties to even (R13): an infinity from
`overflowBound` on; below it a finite value of the sign of `v` that no other is nearer to `v` than, and that is even
where another is as near. -/
structure RoundsTo (f : FpFormat) (v : ℝ) (r : Fp) : Prop where
  within   : r.toNat < 2 * signWeight f
  overflow : (overflowBound f : ℝ) ≤ |v| → ∃ neg, fpVal f r = .inf neg ∧ (neg = true ↔ v < 0)
  nearest  : |v| < overflowBound f → ∃ neg m e, fpVal f r = .fin neg m e ∧ (neg = true ↔ v < 0) ∧
    ∀ (z : Fp) (neg' : Bool) (m' : Nat) (e' : Int), fpVal f z = .fin neg' m' e' →
      finVal neg' m' e' = finVal neg m e ∨
      |(finVal neg m e : ℝ) - v| < |(finVal neg' m' e' : ℝ) - v| ∨
      (|(finVal neg m e : ℝ) - v| = |(finVal neg' m' e' : ℝ) - v| ∧ r.toNat % 2 = 0)

/-! ### Commands -/

/-- The host commands other than STOP: the commands that are accepted and run (R90). -/
def runsCommand (i : Instr) : Bool := decide (i.format = .hostCmd) && decide (i ≠ .stop)

end Sys2Proof.Machine
end

