-- ==== Sys2Proof/Certificates/Slice0/Obligations.lean ====
section
/-! DEFINITION. The statements for the provers, each from numbered rules of spec/. -/

open Sys2Proof Sys2Proof.Machine

/-! ### Encoding -/

/-- Decode and encode agree on every instruction with every operand at every value (spec/30_encoding.md R91 to R97). -/
def Obligations.DecodeOfEncode : Prop := ∀ i : Instr, decode i.format (encode i) = .ok i

/-- Every byte sequence that decodes is the encoding of what it decodes to: no bit is dropped and no two sequences of a
format share an instruction (R93, R99). -/
def Obligations.EncodeOfDecode : Prop :=
  ∀ (f : Format) (bs : List Byte) (i : Instr), decode f bs = .ok i → i.format = f ∧ encode i = bs

/-- R93, both of its forms: by fields, and by exactly one row of the opcode table. -/
def Obligations.CommandLegality : Prop :=
  ∀ w : Word,
    ((∃ i, decodeCommand w = .ok i) ↔
      ((opField w).toNat ≤ 0x10 ∧ rsvdField w = 0#8 ∧
        (opField w ≠ 0x04#8 → opField w ≠ 0x05#8 → opField w ≠ 0x0A#8 → arg16Field w = 0#16) ∧
        (opField w = 0x04#8 → bField w = 0#8))) ∧
    ((∃ i, decodeCommand w = .ok i) ↔ (commandTable.filter fun r => w &&& r.mask = r.value).length = 1)

/-- Words written out from the spec's encodings decode to their instructions (spec/95_test_vectors.md V-DEC, E10). -/
def Obligations.SpecWordsDecode : Prop :=
  decodeCommand 0x00005A04#32 = .ok (.writeTrim 0x5A#8) ∧
  decodeCommand 0x00743E05#32 = .ok (.writeConfig 0x3E#8 0x74#8) ∧
  decodeCommand 0x0000080A#32 = .ok (.setRefreshRate 8#16) ∧
  decodeCommand 0x0000000D#32 = .ok .computeFrame ∧
  decodeCommand 0x00015A04#32 = .error .unusedField ∧
  decodeFrame [0x02#8, 0x92#8, 0x00#8, 0x01#8] = .ok .cfgRead ∧
  decodeFrame [0x04#8, 0xB0#8, 0x5A#8, 0x56#8, 0x00#8] = .ok (.trimWrite 0xB0#8 0x5A#8)

/-- R127: the check byte on integers, its inverse, its bijectivity for each subtrahend, and the table of boundary
values. -/
def Obligations.CheckByteFunction : Prop :=
  (∀ b k : Byte, ((chk b k).toNat : Int) = ((b.toNat : Int) - (k.toNat : Int)) % 256 ∧ chk b k + k = b) ∧
  (∀ k : Byte, Function.Bijective fun b => chk b k) ∧
  (chk 0x00#8 0xAA#8 = 0x56#8 ∧ chk 0xFF#8 0xAA#8 = 0x55#8 ∧ chk 0xAA#8 0xAA#8 = 0x00#8 ∧ chk 0x55#8 0xAA#8 = 0xAB#8) ∧
  (chk 0x00#8 0x55#8 = 0xAB#8 ∧ chk 0xFF#8 0x55#8 = 0xAA#8 ∧ chk 0xAA#8 0x55#8 = 0x55#8 ∧ chk 0x55#8 0x55#8 = 0x00#8)

/-- R100: the words that lines with operands assemble to, what is an assembly error, and that every other mnemonic
assembles to its opcode. -/
def Obligations.AssemblerWords : Prop :=
  (∀ v : Nat, v ≤ 255 → (assemble "WRITE_TRIM" [(v : ℚ)]).map encodeWord =
    some (0x00000004#32 ||| BitVec.ofNat 32 v <<< 8)) ∧
  (∀ l m : Nat, l ≤ 255 → m ≤ 255 → (assemble "WRITE_CONFIG" [(l : ℚ), (m : ℚ)]).map encodeWord =
    some (0x00000005#32 ||| BitVec.ofNat 32 l <<< 8 ||| BitVec.ofNat 32 m <<< 16)) ∧
  (∀ h : Nat, h ≤ 65535 → (assemble "SET_REFRESH_RATE" [(h : ℚ) / 2]).map encodeWord =
    some (0x0000000A#32 ||| BitVec.ofNat 32 h <<< 8)) ∧
  (∀ r : ℚ, (¬ ∃ h : Nat, h ≤ 65535 ∧ r = (h : ℚ) / 2) → assemble "SET_REFRESH_RATE" [r] = none) ∧
  ([("NOP", 0x00#32), ("SESSION_OPEN", 0x01#32), ("SESSION_CLOSE", 0x02#32), ("READ_EEPROM", 0x03#32),
    ("READ_CONFIG", 0x06#32), ("READ_PTAT", 0x07#32), ("READ_CP", 0x08#32), ("READ_IR", 0x09#32),
    ("CHECK_POR", 0x0B#32), ("COMPUTE_TA", 0x0C#32), ("COMPUTE_FRAME", 0x0D#32), ("INIT", 0x0E#32), ("RUN", 0x0F#32),
    ("STOP", 0x10#32)].all fun r => (assemble r.1 []).map encodeWord == some r.2) = true

/-! ### A step runs the decoded instruction -/

/-- A host write to CMD of a word that decodes to `i` makes the step `exec i`, the write being consumed (R90). -/
def Obligations.StepRunsSubmittedCommand : Prop :=
  ∀ (s : State) (w : Word) (rest : List Input) (i : Instr),
    s.inputs = .hostWrite 4 0x000#12 w :: rest → decodeCommand w = .ok i → step s = exec i { s with inputs := rest }

/-- A frame on the bus port whose bytes decode to `i` makes the step `exec i`, once it is the sequencer side's
turn. Frames as instructions of a bus port are the model's choice (log 13). -/
def Obligations.StepRunsFrameOnPort : Prop :=
  ∀ (s : State) (bs : List Byte) (i : Instr),
    s.stopDeferred = false → s.busPort = some bs → decodeFrame bs = .ok i →
      (s.inputs = [] → step s = exec i s) ∧
      (∀ rest, s.inputs = .advance :: rest → step s = exec i { s with inputs := rest })

/-! ### Submission (R90, R297) -/

/-- A rejected word, illegal or written while busy: only LAST_CAUSE and EVENT.ERROR change; a word that is not STOP's
opcode is rejected as busy first (R90, R297). And a running command writes LAST_CAUSE again at its own end: where it ends
with `end`, the value that it last gave LAST_CAUSE itself (R296, R297; log 32). -/
def Obligations.WordRejected : Prop :=
  (∀ (s : State) (w : Word) (rest : List Input),
    s.inputs = .hostWrite 4 0x000#12 w :: rest →
    ((∀ i, decodeCommand w ≠ .ok i) ∨ (s.busy = true ∧ opField w ≠ 0x10#8)) →
      step s = .next { s with
        inputs := rest
        lastCause := if s.busy = true ∧ opField w ≠ 0x10#8 then .commandWhileBusy else .illegalCommand
        event := s.event ||| 0b00010#5 }) ∧
  ∀ s : State, s.busy = true → s.inputs = [] → s.busPort = none → s.seq = .finish →
    step s = .next { s with
      lastCause := s.ownCause
      ownCause := .none
      busy := false
      event := s.event ||| evDone
      curOp := none
      seq := .idle }

/-- R90, point 4: the acceptance of a command, seen where an outside event is due before the sequencer's first move (the
model's granularity, log 3). RUN's acceptance also sets LOOP_STATE and RETRY_CNT (R256). -/
def Obligations.CommandAccepted : Prop :=
  ∀ (s : State) (i : Instr) (e : Input) (rest : List Input),
    s.busy = false → s.inputs = e :: rest → e ≠ .advance → runsCommand i = true →
      ∃ q l r, exec i s = .next { s with
          cmd := encodeWord i
          curOp := some ((encodeWord i).extractLsb' 0 8)
          busy := true
          lastCause := .none
          ownCause := .none
          seq := q
          loopState := l
          retryCnt := r } ∧ q ≠ .idle ∧
        (i ≠ .run → l = s.loopState ∧ r = s.retryCnt) ∧ (i = .run → l = .initializing ∧ r = 0)

/-! ### Sessions and NOP -/

/-- R274: NOP on an idle block completes at once with DONE and LAST_CAUSE NONE, and changes nothing else; while busy it
is rejected. Its command end writes LAST_CAUSE NONE also where a word was rejected between its acceptance and its end. -/
def Obligations.NopCompletes : Prop :=
  ∀ s : State,
    (s.quiet → exec .nop s = .next (ended .nop .none evDone s)) ∧
    (s.busy = true → exec .nop s = .next { s with lastCause := .commandWhileBusy, event := s.event ||| evError }) ∧
    (∀ w, s.busy = false → s.inputs = [.hostWrite 4 0x000#12 w] → s.busPort = none → opField w ≠ 0x10#8 →
      ∃ t u, exec .nop s = .next t ∧ step t = .next u ∧ u.busy = true ∧ u.lastCause = .commandWhileBusy ∧
        step u = .next (ended .nop .none (evDone ||| evError) { s with inputs := [] }))

/-- R150: SESSION_OPEN ends an open session, begins one, sets the clock and waits the settle delay. R151: SESSION_CLOSE
ends an open session, keeps all data, and is idempotent. -/
def Obligations.SessionCommandsComplete : Prop :=
  ∀ s : State, s.quiet →
    exec .sessionOpen s = .next (ended .sessionOpen .none evDone { s with
      sessionOpen := true
      busClk := some 25000
      trace := .wait .settle s.params.settleMs :: .busSetClk 25000 :: .busBegin ::
        (if s.sessionOpen then .busEnd :: s.trace else s.trace) }) ∧
    (s.sessionOpen = true → exec .sessionClose s = .next (ended .sessionClose .none evDone { s with
      sessionOpen := false, busClk := none, trace := .busEnd :: s.trace })) ∧
    (s.sessionOpen = false → exec .sessionClose s = .next (ended .sessionClose .none evDone s))

/-! ### Protocol commands -/

/-- R152: READ_EEPROM replaces the whole image on success, keeps it and clears EE_VALID on failure, and fails without a
bus event when no session is open. -/
def Obligations.ReadEepromCompletes : Prop :=
  ∀ s : State, s.quiet →
    (s.sessionOpen = false →
      exec .readEeprom s = .next (ended .readEeprom .sessionClosed (evDone ||| evError) s)) ∧
    (s.sessionOpen = true → s.busAnswer 256 = none →
      exec .readEeprom s = .next (ended .readEeprom .busTransactionFailed (evDone ||| evError)
        { sent 0x50#7 (.busWriteRead [0x00#8] 256 none) s with eeValid := false })) ∧
    (∀ e, s.sessionOpen = true → s.busAnswer 256 = some e →
      ∃ t, exec .readEeprom s = .next t ∧
        t = ended .readEeprom .none evDone
          { sent 0x50#7 (.busWriteRead [0x00#8] 256 (some e)) s with mem := t.mem, eeValid := true } ∧
        e.length = 256 ∧ (∀ a : Byte, t.ee a = e.getD a.toNat 0#8) ∧
        (∀ a, ¬ (0x100 ≤ a ∧ a < 0x200) → t.mem.read a = s.mem.read a))

/-- R154, R128: WRITE_TRIM sends the trim frame with its check bytes to 0x60 and changes no data. -/
def Obligations.WriteTrimCompletes : Prop :=
  ∀ (s : State) (v : Byte), s.quiet →
    (s.sessionOpen = false →
      exec (.writeTrim v) s = .next (ended (.writeTrim v) .sessionClosed (evDone ||| evError) s)) ∧
    (s.sessionOpen = true → s.busAnswer 0 = none →
      exec (.writeTrim v) s = .next (ended (.writeTrim v) .busTransactionFailed (evDone ||| evError)
        (sent 0x60#7 (.busWrite [0x04#8, v - 0xAA#8, v, 0x56#8, 0x00#8] false) s))) ∧
    (∀ r, s.sessionOpen = true → s.busAnswer 0 = some r →
      exec (.writeTrim v) s = .next (ended (.writeTrim v) .none evDone
        (sent 0x60#7 (.busWrite [0x04#8, v - 0xAA#8, v, 0x56#8, 0x00#8] true) s)))

/-- R156, R129: WRITE_CONFIG sends the configuration frame with its check bytes to 0x60 and clears CFG_VALID on either
outcome; the shadow bytes stay. -/
def Obligations.WriteConfigCompletes : Prop :=
  ∀ (s : State) (l m : Byte), s.quiet →
    (s.sessionOpen = false →
      exec (.writeConfig l m) s = .next (ended (.writeConfig l m) .sessionClosed (evDone ||| evError) s)) ∧
    (s.sessionOpen = true → s.busAnswer 0 = none →
      exec (.writeConfig l m) s = .next (ended (.writeConfig l m) .busTransactionFailed (evDone ||| evError)
        { sent 0x60#7 (.busWrite [0x03#8, l - 0x55#8, l, m - 0x55#8, m] false) s with cfgValid := false })) ∧
    (∀ r, s.sessionOpen = true → s.busAnswer 0 = some r →
      exec (.writeConfig l m) s = .next (ended (.writeConfig l m) .none evDone
        { sent 0x60#7 (.busWrite [0x03#8, l - 0x55#8, l, m - 0x55#8, m] true) s with cfgValid := false }))

/-- R158: READ_CONFIG takes the LSB and the MSB, in that order. -/
def Obligations.ReadConfigCompletes : Prop :=
  ∀ s : State, s.quiet →
    (s.sessionOpen = false →
      exec .readConfig s = .next (ended .readConfig .sessionClosed (evDone ||| evError) s)) ∧
    (s.sessionOpen = true → s.busAnswer 2 = none →
      exec .readConfig s = .next (ended .readConfig .busTransactionFailed (evDone ||| evError)
        { sent 0x60#7 (.busWriteRead [0x02#8, 0x92#8, 0x00#8, 0x01#8] 2 none) s with
          cfgValid := false, cfgShown := false })) ∧
    (∀ l m, s.sessionOpen = true → s.busAnswer 2 = some [l, m] →
      exec .readConfig s = .next (ended .readConfig .none evDone
        { sent 0x60#7 (.busWriteRead [0x02#8, 0x92#8, 0x00#8, 0x01#8] 2 (some [l, m])) s with
          cfgLsb := l, cfgMsb := m, cfgValid := true, cfgShown := true }))

/-- R159, R160: READ_PTAT and READ_CP take their two bytes little-endian, each into its own register. -/
def Obligations.ReadPtatAndCpComplete : Prop :=
  ∀ s : State, s.quiet →
    (s.sessionOpen = false →
      exec .readPtat s = .next (ended .readPtat .sessionClosed (evDone ||| evError) s) ∧
      exec .readCp s = .next (ended .readCp .sessionClosed (evDone ||| evError) s)) ∧
    (s.sessionOpen = true → s.busAnswer 2 = none →
      exec .readPtat s = .next (ended .readPtat .busTransactionFailed (evDone ||| evError)
        { sent 0x60#7 (.busWriteRead [0x02#8, 0x90#8, 0x00#8, 0x01#8] 2 none) s with ptatValid := false }) ∧
      exec .readCp s = .next (ended .readCp .busTransactionFailed (evDone ||| evError)
        { sent 0x60#7 (.busWriteRead [0x02#8, 0x91#8, 0x00#8, 0x01#8] 2 none) s with cpValid := false })) ∧
    (∀ lo hi, s.sessionOpen = true → s.busAnswer 2 = some [lo, hi] →
      exec .readPtat s = .next (ended .readPtat .none evDone
        { sent 0x60#7 (.busWriteRead [0x02#8, 0x90#8, 0x00#8, 0x01#8] 2 (some [lo, hi])) s with
          ptat := hi ++ lo, ptatValid := true }) ∧
      exec .readCp s = .next (ended .readCp .none evDone
        { sent 0x60#7 (.busWriteRead [0x02#8, 0x91#8, 0x00#8, 0x01#8] 2 (some [lo, hi])) s with
          cp := hi ++ lo, cpValid := true }))

/-- R161: READ_IR replaces all 64 raw values, little-endian pairs in raw order; its failure is FRAME_READ_FAILED. -/
def Obligations.ReadIrCompletes : Prop :=
  ∀ s : State, s.quiet →
    (s.sessionOpen = false →
      exec .readIr s = .next (ended .readIr .sessionClosed (evDone ||| evError) s)) ∧
    (s.sessionOpen = true → s.busAnswer 128 = none →
      exec .readIr s = .next (ended .readIr .frameReadFailed (evDone ||| evError)
        { sent 0x60#7 (.busWriteRead [0x02#8, 0x00#8, 0x01#8, 0x40#8] 128 none) s with irValid := false })) ∧
    (∀ b, s.sessionOpen = true → s.busAnswer 128 = some b →
      ∃ t, exec .readIr s = .next t ∧
        t = ended .readIr .none evDone
          { sent 0x60#7 (.busWriteRead [0x02#8, 0x00#8, 0x01#8, 0x40#8] 128 (some b)) s with
            mem := t.mem, irValid := true } ∧
        b.length = 128 ∧ (∀ x < 64, t.ir x = b.getD (2 * x + 1) 0#8 ++ b.getD (2 * x) 0#8) ∧
        (∀ a, ¬ (0x200 ≤ a ∧ a < 0x280) → t.mem.read a = s.mem.read a))

/-- R164, R165: SET_REFRESH_RATE reads the configuration, replaces the low nibble of its LSB by the rate's code, writes
both bytes back, and commits the code; a failed read sends no write, a failed write keeps what the read committed. -/
def Obligations.SetRefreshRateCompletes : Prop :=
  ∀ (s : State) (h : Half), s.quiet →
    (s.sessionOpen = false →
      exec (.setRefreshRate h) s = .next (ended (.setRefreshRate h) .sessionClosed (evDone ||| evError) s)) ∧
    (s.sessionOpen = true → s.busAnswer 2 = none →
      exec (.setRefreshRate h) s = .next (ended (.setRefreshRate h) .busTransactionFailed (evDone ||| evError)
        { sent 0x60#7 (.busWriteRead [0x02#8, 0x92#8, 0x00#8, 0x01#8] 2 none) s with
          cfgValid := false, cfgShown := false })) ∧
    (∀ (l m n : Byte) (code : BitVec 4), s.sessionOpen = true → s.busAnswer 2 = some [l, m] → rateCodeOf s.params h = code →
      n = l.extractLsb' 4 4 ++ code →
      (s.answerAt 1 0 = none →
        exec (.setRefreshRate h) s = .next (ended (.setRefreshRate h) .busTransactionFailed (evDone ||| evError)
          { sent 0x60#7 (.busWrite [0x03#8, n - 0x55#8, n, m - 0x55#8, m] false)
              (sent 0x60#7 (.busWriteRead [0x02#8, 0x92#8, 0x00#8, 0x01#8] 2 (some [l, m])) s) with
            cfgLsb := l, cfgMsb := m, cfgValid := false, cfgShown := true })) ∧
      (∀ r, s.answerAt 1 0 = some r →
        exec (.setRefreshRate h) s = .next (ended (.setRefreshRate h) .none evDone
          { sent 0x60#7 (.busWrite [0x03#8, n - 0x55#8, n, m - 0x55#8, m] true)
              (sent 0x60#7 (.busWriteRead [0x02#8, 0x92#8, 0x00#8, 0x01#8] 2 (some [l, m])) s) with
            cfgLsb := l, cfgMsb := m, cfgValid := false, cfgShown := true, rateCode := code, rateValid := true })))

/-- R162, R163 with the default table (PRESUMED, log 20): the 11 documented rates have their codes, every
other value the 1 Hz code. -/
def Obligations.RateCodeTable : Prop :=
  ∀ h : Half, rateCodeOf {} h =
    if h = 1024#16 then 0x0#4 else if h = 512#16 then 0x6#4 else if h = 256#16 then 0x7#4
    else if h = 128#16 then 0x8#4 else if h = 64#16 then 0x9#4 else if h = 32#16 then 0xA#4
    else if h = 16#16 then 0xB#4 else if h = 8#16 then 0xC#4 else if h = 4#16 then 0xD#4
    else if h = 2#16 then 0xE#4 else if h = 1#16 then 0xF#4 else 0xE#4

/-- R167, R157: CHECK_POR reads the configuration and reports its power-on-reset flag, which is no error. -/
def Obligations.CheckPorCompletes : Prop :=
  ∀ s : State, s.quiet →
    (s.sessionOpen = false →
      exec .checkPor s = .next (ended .checkPor .sessionClosed (evDone ||| evError) s)) ∧
    (s.sessionOpen = true → s.busAnswer 2 = none →
      exec .checkPor s = .next (ended .checkPor .busTransactionFailed (evDone ||| evError)
        { sent 0x60#7 (.busWriteRead [0x02#8, 0x92#8, 0x00#8, 0x01#8] 2 none) s with
          cfgValid := false, cfgShown := false })) ∧
    (∀ l m, s.sessionOpen = true → s.busAnswer 2 = some [l, m] →
      exec .checkPor s = .next (ended .checkPor
        (if m.getLsbD 2 = s.params.porActiveLevel then .powerOnReset else .none)
        (if m.getLsbD 2 = s.params.porActiveLevel then evDone ||| evPor else evDone)
        { sent 0x60#7 (.busWriteRead [0x02#8, 0x92#8, 0x00#8, 0x01#8] 2 (some [l, m])) s with
          cfgLsb := l, cfgMsb := m, cfgValid := true, cfgShown := true }))

/-! ### Computations -/

/-- R210, R213: COMPUTE_TA checks EE_VALID, then PTAT_VALID, stores the stage 1 value, and gates it. -/
def Obligations.ComputeTaCompletes : Prop :=
  ∀ s : State, s.quiet →
    (s.eeValid = false → exec .computeTa s = .next (ended .computeTa .eepromNotValid (evDone ||| evError) s)) ∧
    (s.eeValid = true → s.ptatValid = false →
      exec .computeTa s = .next (ended .computeTa .dataNotValid (evDone ||| evError) s)) ∧
    (∀ v, s.eeValid = true → s.ptatValid = true → taFormula s.params s.ee s.ptat = v →
      (plausible s.params.fpFormat v = true →
        exec .computeTa s = .next (ended .computeTa .none evDone { s with ta := v, taShown := true, taValid := true })) ∧
      (plausible s.params.fpFormat v = false →
        exec .computeTa s = .next (ended .computeTa .calibrationImplausible (evDone ||| evError)
          { s with ta := v, taShown := true, taValid := false })))

/-- R227, R228, R229: COMPUTE_FRAME checks EE_VALID, then the other validity bits, and computes, commits and emits one
frame; nothing else changes. -/
def Obligations.ComputeFrameCompletes : Prop :=
  ∀ s : State, s.quiet →
    (s.eeValid = false → exec .computeFrame s = .next (ended .computeFrame .eepromNotValid (evDone ||| evError) s)) ∧
    (s.eeValid = true → (s.taValid = false ∨ s.cpValid = false ∨ s.irValid = false) →
      exec .computeFrame s = .next (ended .computeFrame .dataNotValid (evDone ||| evError) s)) ∧
    (s.eeValid = true → s.taValid = true → s.cpValid = true → s.irValid = true →
      ∃ t f, exec .computeFrame s = .next t ∧
        t = ended .computeFrame .none (if t.encClamped then evFrame ||| evWarn ||| evDone else evFrame ||| evDone)
          { s with
            mem := t.mem
            frameValid := true
            encClamped := t.encClamped
            frameCount := s.frameCount + 1#32
            trace := .emit f :: s.trace } ∧
        HoldsFrame t (pixelOf s.params s.ee s.ta s.cp s.ir) f ∧ frameMemFrame s.mem t.mem)

/-- R220 (section 8 of the source): the frame is a function of the parameters, EE, TA, CP and IR; nothing else of the
state, the outside world included, reaches TEMP, OUT_ENC or ENC_CLAMPED. -/
def Obligations.FrameIsDeterministic : Prop :=
  ∀ s s' t t' : State, s.quiet → s'.quiet →
    (s.eeValid && s.taValid && s.cpValid && s.irValid) = true →
    (s'.eeValid && s'.taValid && s'.cpValid && s'.irValid) = true →
    s.params = s'.params → s.ta = s'.ta → s.cp = s'.cp → (∀ a, s.ee a = s'.ee a) → (∀ x < 64, s.ir x = s'.ir x) →
    exec .computeFrame s = .next t → exec .computeFrame s' = .next t' →
      (∀ l < 64, t.temp l = t'.temp l ∧ t.enc l = t'.enc l) ∧ t.encClamped = t'.encClamped

/-- R207 and R214 to R219, each operation rounded once and in the order the spec gives, over the image's bytes at the
places and with the readings and divisors of R200 and R201 (the defaults of R7: PRESUMED, log 20; `POW4` and `ROOT4`
are R219's, log 18). -/
def Obligations.PipelineStages : Prop :=
  ∀ (f : FpFormat) (ee : Image) (ptat cp ir : Half) (ta : Fp) (x : Nat), x < 64 →
    let p : Params := { fpFormat := f }
    let i := fpInt f
    let b (a : Nat) : Byte := ee (BitVec.ofNat 8 a)
    let w (a : Nat) : Half := b (a + 1) ++ b a
    let k := fdiv f (i 27315) (i 100)
    let kt1 := fdiv f (i (w 0xDC).toInt) (i 1024)
    let kt2 := fdiv f (i (w 0xDE).toInt) (i 1048576)
    let d := fsub f (fmul f kt1 kt1) (fmul f (fmul f (i 4) kt2) (fsub f (i (w 0xDA).toInt) (i ptat.toNat)))
    taFormula p ee ptat = fadd f (fdiv f (fsub f (fsqrt f d) kt1) (fmul f (i 2) kt2)) (i 25) ∧
    let dta := fsub f ta (i 25)
    let sc := fpPow2 f (b 0xD9).toNat
    let off (o s : Byte) : Fp := fadd f (i o.toInt) (fmul f (fdiv f (i s.toInt) sc) dta)
    let g := fdiv f (i (b 0xD8).toInt) (i 32)
    let vcp := fsub f (i cp.toInt) (off (b 0xD4) (b 0xD5))
    let vir := fsub f (fsub f (i ir.toInt) (off (b (0x00 + x)) (b (0x40 + x)))) (fmul f g vcp)
    let eps := fdiv f (i (w 0xE4).toNat) (i 32768)
    let alpha := fadd f
      (fdiv f (fsub f (i (w 0xE0).toNat) (fmul f g (i (w 0xD6).toNat))) (fpPow2 f (b 0xE2).toNat))
      (fdiv f (i (b (0x80 + x)).toNat) (fpPow2 f (b 0xE3).toNat))
    let k2 := fmul f (fadd f ta k) (fadd f ta k)
    pixelTemp p ee ta (vcpOff p ee ta cp) ir x =
      fsub f (fsqrt f (fsqrt f (fadd f (fdiv f (fdiv f vir eps) alpha) (fmul f k2 k2)))) k

/-- R212: the gate accepts exactly the finite values not above 350, with no lower bound. -/
def Obligations.PlausibilityGate : Prop :=
  ∀ (f : FpFormat) (x : Fp), plausible f x = true ↔
    ∃ neg m e, fpVal f x = .fin neg m e ∧ (if neg then -1 else 1 : ℚ) * m * (2 : ℚ) ^ e ≤ 350

/-- R225, R226: the encoding of a number is its nearest integer, a tie going to the larger magnitude, saturated to 16
bits with the clamp flag; NaN and the infinities clamp. -/
def Obligations.EncodingRoundsAndSaturates : Prop :=
  (∀ (neg : Bool) (m : Nat) (e : Int) (v : ℚ), v = (if neg then -1 else 1 : ℚ) * m * (2 : ℚ) ^ e →
    |(roundHalfAway neg m e : ℚ) - v| ≤ 1 / 2 ∧
    (|(roundHalfAway neg m e : ℚ) - v| = 1 / 2 → |v| < |(roundHalfAway neg m e : ℚ)|)) ∧
  (∀ k : Int, encInt k = if k < 0 then (0#16, true) else if k > 65535 then (65535#16, true) else (BitVec.ofInt 16 k, false)) ∧
  (∀ (f : FpFormat) (x v : Fp), fmul f (fadd f x (kKelvinF f)) (fpInt f 100) = v →
    (fpVal f v = .nan → encTemp f x = (0#16, true)) ∧
    (fpVal f v = .inf false → encTemp f x = (65535#16, true)) ∧
    (fpVal f v = .inf true → encTemp f x = (0#16, true)) ∧
    (∀ neg m e, fpVal f v = .fin neg m e → encTemp f x = encInt (roundHalfAway neg m e)))

/-- R222, R223: the remap's formula and its inverse, a bijection of [0, 64). -/
def Obligations.RemapBijection : Prop :=
  (∀ i < 4, ∀ j < 16, rawIndex (i * 16 + j) = j * 4 + i) ∧
  (∀ x < 64, logicalIndex x = x % 4 * 16 + x / 4 ∧ logicalIndex x < 64 ∧ rawIndex (logicalIndex x) = x) ∧
  (∀ l < 64, rawIndex l < 64 ∧ logicalIndex (rawIndex l) = l)

/-! ### Floating point (R13) -/

/-- R13: rounding to an integer multiple of a power of two goes to the nearest, a tie to the even one; and the one
rounding of the formats, `roundFp`, rounds every finite value to nearest, ties to even, over the whole range of the
format, subnormals and overflow included, and keeps the sign of a zero. -/
def Obligations.RoundsToNearestEven : Prop :=
  (∀ (m : Nat) (k : Int),
    |(scaleRne m k : ℚ) - m * (2 : ℚ) ^ k| ≤ 1 / 2 ∧
    (|(scaleRne m k : ℚ) - m * (2 : ℚ) ^ k| = 1 / 2 → scaleRne m k % 2 = 0)) ∧
  (∀ (f : FpFormat) (neg : Bool) (m : Nat) (e : Int), m ≠ 0 → RoundsTo f (finVal neg m e) (roundFp f neg m e)) ∧
  ∀ (f : FpFormat) (neg : Bool) (e : Int), roundFp f neg 0 e = fpPack f neg 0

/-- R13: on finite operands the sum, difference, product, quotient and square root are the exact real result rounded
once, and where that is 0, or the divisor is 0, or the radicand is below 0, what IEEE 754 gives; with an operand that is
NaN or infinite the result is the NaN, the infinity or the zero that IEEE 754 gives (R208, R221); and the conversions of
integers and the powers of two are rounded once. -/
def Obligations.OperationsAreCorrectlyRounded : Prop :=
  (∀ (f : FpFormat) (a b : Fp) (na nb : Bool) (ma mb : Nat) (ea eb : Int) (x y : ℚ),
    fpVal f a = .fin na ma ea → fpVal f b = .fin nb mb eb → finVal na ma ea = x → finVal nb mb eb = y →
      (x + y ≠ 0 → RoundsTo f (x + y : ℚ) (fadd f a b)) ∧ (x + y = 0 → fadd f a b = fpPack f (na && nb) 0) ∧
      (x - y ≠ 0 → RoundsTo f (x - y : ℚ) (fsub f a b)) ∧ (x - y = 0 → fsub f a b = fpPack f (na && !nb) 0) ∧
      (x * y ≠ 0 → RoundsTo f (x * y : ℚ) (fmul f a b)) ∧ (x * y = 0 → fmul f a b = fpPack f (na != nb) 0) ∧
      (x ≠ 0 → y ≠ 0 → RoundsTo f (x / y : ℚ) (fdiv f a b)) ∧
      (x = 0 → y ≠ 0 → fdiv f a b = fpPack f (na != nb) 0) ∧
      (x ≠ 0 → y = 0 → fdiv f a b = fpInf f (na != nb)) ∧ (x = 0 → y = 0 → fdiv f a b = fpNaN f) ∧
      (0 < x → RoundsTo f (Real.sqrt x) (fsqrt f a)) ∧ (x = 0 → fsqrt f a = fpPack f na 0) ∧
      (x < 0 → fsqrt f a = fpNaN f)) ∧
  (∀ (f : FpFormat) (neg : Bool),
    fpVal f (fpNaN f) = .nan ∧ fpVal f (fpInf f neg) = .inf neg ∧ fpVal f (fpPack f neg 0) = .fin neg 0 (minExp f)) ∧
  (∀ (f : FpFormat) (a b : Fp),
    (fpVal f a = .nan ∨ fpVal f b = .nan →
      fadd f a b = fpNaN f ∧ fsub f a b = fpNaN f ∧ fmul f a b = fpNaN f ∧ fdiv f a b = fpNaN f) ∧
    (fpVal f a = .nan → fsqrt f a = fpNaN f) ∧
    (∀ na nb, fpVal f a = .inf na → fpVal f b = .inf nb →
      fadd f a b = (if na = nb then fpInf f na else fpNaN f) ∧ fsub f a b = (if na = nb then fpNaN f else fpInf f na) ∧
      fmul f a b = fpInf f (na != nb) ∧ fdiv f a b = fpNaN f) ∧
    (∀ na nb m e, fpVal f a = .inf na → fpVal f b = .fin nb m e →
      fadd f a b = fpInf f na ∧ fsub f a b = fpInf f na ∧
      fmul f a b = (if m = 0 then fpNaN f else fpInf f (na != nb)) ∧ fdiv f a b = fpInf f (na != nb)) ∧
    (∀ na nb m e, fpVal f a = .fin na m e → fpVal f b = .inf nb →
      fadd f a b = fpInf f nb ∧ fsub f a b = fpInf f (!nb) ∧
      fmul f a b = (if m = 0 then fpNaN f else fpInf f (na != nb)) ∧ fdiv f a b = fpPack f (na != nb) 0) ∧
    (∀ na, fpVal f a = .inf na → fsqrt f a = if na then fpNaN f else fpInf f false)) ∧
  (∀ (f : FpFormat) (n : Int), n ≠ 0 → RoundsTo f n (fpInt f n)) ∧
  ∀ (f : FpFormat) (n : Int), RoundsTo f (2 ^ n : ℚ) (fpPow2 f n)

/-- A finite value of the format rounds to itself: reading an encoding and rounding what it stands for gives it back
(R13). -/
def Obligations.RoundingIsExactOnTheFormat : Prop :=
  ∀ (f : FpFormat) (x : Fp) (neg : Bool) (m : Nat) (e : Int),
    x.toNat < 2 * signWeight f → fpVal f x = .fin neg m e → roundFp f neg m e = x

/-- R13: every NaN result is the canonical quiet NaN of its format. -/
def Obligations.NaNResultsAreCanonical : Prop :=
  fpNaN .binary64 = 0x7FF8000000000000#64 ∧ fpNaN .binary32 = 0x7FC00000#64 ∧
  ∀ (f : FpFormat) (a b : Fp),
    (fpVal f (fadd f a b) = .nan → fadd f a b = fpNaN f) ∧ (fpVal f (fsub f a b) = .nan → fsub f a b = fpNaN f) ∧
    (fpVal f (fmul f a b) = .nan → fmul f a b = fpNaN f) ∧ (fpVal f (fdiv f a b) = .nan → fdiv f a b = fpNaN f) ∧
    (fpVal f (fsqrt f a) = .nan → fsqrt f a = fpNaN f)

/-! ### Initialization and the loop -/

/-- R250, R251: INIT with every transaction `OK` opens a session, reads the image, writes the trim and the
configuration from it, sets 4 Hz, verifies, and reports a flag observed set. -/
def Obligations.InitCompletes : Prop :=
  ∀ (s : State) (e : List Byte) (l m vl vm : Byte), s.quiet → InitAnswers s e (.done l m) (some (vl, vm)) →
    ∃ n, HoldsImage s.mem e n ∧
      exec .init s = .next (ended .init (if vm.getLsbD 2 = s.params.porActiveLevel then .powerOnReset else .none)
        (if vm.getLsbD 2 = s.params.porActiveLevel then evDone ||| evPor else evDone)
        (initDone s e (.done l m) (some (vl, vm)) n))

/-- R252: a failed EEPROM read, trim write or configuration write fails INIT as a whole at that step; no later step is
issued and the steps done are not undone. -/
def Obligations.InitFailsAsAWhole : Prop :=
  ∀ (s : State) (e : List Byte) (f : FatalStep), s.quiet → f.FailsAt s e →
    ∃ n, f.Mem s.mem e n ∧
      exec .init s = .next (ended .init .busTransactionFailed (evDone ||| evError) (initFailed s e f n))

/-- R253, R254: a rate step that fails at its read or at its write, and a failed verification read, each alone or both,
are warnings: INIT goes on, keeps RATE_CODE and RATE_VALID where the rate was not set, counts the flag as observed set
where the verification read failed, and ends without ERROR. -/
def Obligations.InitSurvivesRateAndVerifyFailure : Prop :=
  ∀ (s : State) (e : List Byte) (r : RateStep) (v : Option (Byte × Byte)), s.quiet → InitAnswers s e r v →
    (r.ok = false ∨ v = none) →
    ∃ n, HoldsImage s.mem e n ∧
      exec .init s = .next (ended .init
        (if flagSeen s.params v then .powerOnReset else .busTransactionFailed)
        (if flagSeen s.params v then evDone ||| evWarn ||| evPor else evDone ||| evWarn)
        (initDone s e r v n))

/-- R256 to R268: with every transaction `OK`, the flags clear and both ambient temperatures plausible, RUN, and RUN
going on after the pause of an ambient retry (R260), runs the initialization sequence, the ambient step and one cycle,
emits exactly one frame computed from what was read, and reaches the cycle's pause in state READY. What one step covers
is the model's choice (log 3). -/
def Obligations.RunReachesFirstPause : Prop :=
  ∀ (s u : State) (r : Host.Outcome State Fault Refusal) (e : List Byte) (l m vl vm p0 p1 : Byte) (d : CycleData),
    ((s.quiet ∧ r = exec .run s ∧
        u = { s with
          cmd := 0x0000000F#32
          curOp := some 0x0F#8
          busy := true
          lastCause := .none
          ownCause := .none }) ∨
      (s.RunsAt (.pause .amb) ∧ s.termReq = false ∧ r = step s ∧ u = s)) →
    InitAnswers s e (.done l m) (some (vl, vm)) → vm.getLsbD 2 ≠ s.params.porActiveLevel →
    s.answerAt 6 2 = some [p0, p1] → CycleAnswers s 7 d →
    plausible s.params.fpFormat (taFormula s.params (imageOf e) (p1 ++ p0)) = true →
    plausible s.params.fpFormat (taFormula s.params (imageOf e) d.ptat) = true →
    ∃ n t, HoldsImage s.mem e n ∧ r = .next t ∧
      CycleLeaves (ambientDone (initDone u e (.done l m) (some (vl, vm)) n) p0 p1) d t

/-- R257, R269, R272: an initialization failure inside RUN, at any fatal step and in either phase that initializes, ends
it by the shutdown routine with BUS_TRANSACTION_FAILED: in INIT_PHASE at once after RUN or after the pause of an ambient
retry, in FAULTED_PHASE after its pause. -/
def Obligations.RunShutsDownOnInitFailure : Prop :=
  ∀ (s : State) (e : List Byte) (f : FatalStep), f.FailsAt s e →
    (s.quiet → ∃ n, f.Mem s.mem e n ∧
      exec .run s = .next (ended .run .busTransactionFailed (evDone ||| evError)
        { initFailed s e f n with
          loopState := .halted
          retryCnt := 0
          termReq := false
          sessionOpen := false
          busClk := none
          trace := .busEnd :: f.trace s e })) ∧
    (∀ p, s.RunsAt (.pause p) → p ≠ .cycle → s.termReq = false → ∃ n, f.Mem s.mem e n ∧
      step s = .next { initFailed s e f n with
        lastCause := .busTransactionFailed
        ownCause := .none
        busy := false
        event := s.event ||| (evDone ||| evError)
        curOp := none
        seq := .idle
        loopState := .halted
        sessionOpen := false
        busClk := none
        trace := .busEnd :: f.trace s e })

/-- R273, R272: STOP idle runs the shutdown routine at once with cause STOPPED and no ERROR; STOP busy only requests
termination. -/
def Obligations.StopCompletes : Prop :=
  ∀ s : State,
    (s.busy = true → exec .stop s = .next { s with cmd := 0x00000010#32, termReq := true }) ∧
    (s.busy = false → exec .stop s = .next (ended .stop .stopped evDone { s with
      loopState := .halted
      termReq := false
      sessionOpen := false
      busClk := if s.sessionOpen then none else s.busClk
      busPort := none
      trace := if s.sessionOpen then .busEnd :: s.trace else s.trace }))

/-- R273: a termination request left by a command other than RUN is acted on by the sequencer's next move after that
command's end; outside events may come first (R76), and a command that one of them submits there is accepted with the
request still pending (the model's reading, log 12). -/
def Obligations.StopAfterAnotherCommand : Prop :=
  ∀ (s : State) (rest : List Input), s.busy = false → s.termReq = true →
    (s.inputs = [] ∧ rest = [] ∨ s.inputs = .advance :: rest) →
    step s = .next { s with
      inputs := rest
      lastCause := .stopped
      ownCause := .none
      event := s.event ||| evDone
      loopState := .halted
      termReq := false
      sessionOpen := false
      busClk := if s.sessionOpen then none else s.busClk
      busPort := none
      trace := if s.sessionOpen then .busEnd :: s.trace else s.trace
      curOp := none
      seq := .idle }

/-- R266, R304: an IR read failure in a cycle of RUN, whichever way the cycle is entered, shuts RUN down at once with
FRAME_READ_FAILED, a pending termination request notwithstanding. -/
def Obligations.IrFailureEndsRun : Prop :=
  ∀ (s : State) (r : Answered), Reaches (.op .irRead .cycleIr) s r → s.busAnswer 128 = none →
    r = .next { sent 0x60#7 (.busWriteRead [0x02#8, 0x00#8, 0x01#8, 0x40#8] 128 none) s with
      irValid := false
      lastCause := .frameReadFailed
      ownCause := .none
      busy := false
      event := s.event ||| (evDone ||| evError)
      curOp := none
      seq := .idle
      loopState := .halted
      termReq := false
      sessionOpen := false
      busClk := none
      trace := .busEnd :: .busWriteRead [0x02#8, 0x00#8, 0x01#8, 0x40#8] 128 none :: .busSetAddr 0x60#7 :: s.trace }

/-- R254, R258, R262, R263, R269, R270, R294: RUN reaches FAULTED_PHASE where the cycle's check finds the flag set or
fails (a warning, then handled as a set flag; no PTAT, CP or IR read), and where the verification read of an InitSeq of
INIT_PHASE or of FAULTED_PHASE finds the flag set or fails (`Reaches`); there it reports POWER_ON_RESET with EVENT.POR,
counts the recovery and pauses in FAULTED, and at a finite RETRY_LIMIT it is shut down with POWER_ON_RESET. -/
def Obligations.BrownOutRecovery : Prop :=
  ∀ (u : State) (r : Answered), Reaches .faultedPhase u r →
    Recovers .powerOnReset .faulted evPor .por (.wait .por u.params.porMs) u r

/-- R257, R259, R260, R264, R265, R270: RUN reaches AMBIENT_RETRY where an ambient step, in INIT_PHASE or in CYCLE, fails
at its PTAT read (PTAT_VALID 0, cause BUS_TRANSACTION_FAILED) or at the gate (TA stored with TA_VALID 0, cause
CALIBRATION_IMPLAUSIBLE), and where the cycle's CP read fails (CP_VALID 0, cause BUS_TRANSACTION_FAILED), with no later
read and no frame (`Reaches`); there it warns with the cause, counts the recovery and pauses in INITIALIZING, and at a
finite RETRY_LIMIT it is shut down with the cause. -/
def Obligations.AmbientRetry : Prop :=
  ∀ (c : Cause) (u : State) (r : Answered), Reaches (.ambientRetry c) u r →
    Recovers c .initializing evWarn .amb (.wait .amb u.params.ambMs) u r

/-- R271, R272: a termination request pending at the end of any pause of RUN shuts it down with STOPPED and no ERROR.
With none pending, the ambient retry's pause goes on with INIT_PHASE (R260), the brown-out pause with the
initialization sequence (R269) and the cycle's with CYCLE (R262): each seen where an outside event is due after that one
move (the model's granularity, log 3). And the brown-out recovery, its transactions `OK`, goes straight to CYCLE, with
no ambient step of its own, when the flag has cleared, and pauses again when it has not (R269). -/
def Obligations.PauseEnd : Prop :=
  (∀ (s : State) (p : Pause), s.busy = true → s.inputs = [] → s.busPort = none → s.seq = .pause p → s.termReq = true →
    step s = .next { s with
      lastCause := .stopped
      ownCause := .none
      busy := false
      event := s.event ||| evDone
      curOp := none
      seq := .idle
      loopState := .halted
      termReq := false
      sessionOpen := false
      busClk := if s.sessionOpen then none else s.busClk
      trace := if s.sessionOpen then .busEnd :: s.trace else s.trace }) ∧
  (∀ (s : State) (x : Input) (rest : List Input), s.busy = true → s.inputs = .advance :: x :: rest → x ≠ .advance →
    s.busPort = none → s.termReq = false →
      (s.seq = .pause .amb → step s = .next { s with inputs := x :: rest, seq := .initPhase }) ∧
      (s.seq = .pause .por → step s = .next { s with
        inputs := x :: rest, loopState := .initializing, seq := .openSession (.initSeq .faultedPhase) }) ∧
      (s.seq = .pause .cycle → step s = .next { s with inputs := x :: rest, seq := .cycle })) ∧
  (∀ (s : State) (e : List Byte) (l m vl vm : Byte), s.RunsAt (.pause .por) → s.termReq = false →
    InitAnswers s e (.done l m) (some (vl, vm)) →
      (∀ d : CycleData, vm.getLsbD 2 ≠ s.params.porActiveLevel → CycleAnswers s 6 d →
        plausible s.params.fpFormat (taFormula s.params (imageOf e) d.ptat) = true →
        ∃ n t, HoldsImage s.mem e n ∧ step s = .next t ∧
          CycleLeaves (initDone s e (.done l m) (some (vl, vm)) n) d t) ∧
      (vm.getLsbD 2 = s.params.porActiveLevel → s.params.retryLimit = none →
        ∃ n, HoldsImage s.mem e n ∧
          step s = .next { initDone s e (.done l m) (some (vl, vm)) n with
            loopState := .faulted
            lastCause := .powerOnReset
            ownCause := .powerOnReset
            event := s.event ||| evPor
            retryCnt := s.retryCnt + 1
            seq := .pause .por
            trace := .wait .por s.params.porMs :: initTrace s e (.done l m) (some (vl, vm)) }))

/-- R262 to R268: whichever way RUN enters CYCLE (`Reaches`: after InitSeq and a plausible ambient step, after the
brown-out recovery, after the cycle's own pause), every transaction `OK`, the flag clear and the ambient temperature
plausible, it runs one whole cycle: the check, the ambient step, the CP and the IR read, one frame, the pause. And
wherever the validity bits are as the cycle's frame needs them, the cycle computes, emits exactly one frame, clears
RETRY_CNT and pauses. -/
def Obligations.CycleEmitsOneFrame : Prop :=
  (∀ (s : State) (r : Answered) (d : CycleData), Reaches .cycle s r → s.eeValid = true →
    CycleAnswers s 0 d → plausible s.params.fpFormat (taFormula s.params s.ee d.ptat) = true →
    ∃ t, r = .next t ∧ CycleLeaves s d t) ∧
  (∀ s : State, s.busy = true → s.inputs = [] → s.busPort = none → s.seq = .cycleFrame → s.dataReady = true →
    ∃ t f, step s = .next t ∧
      t = { s with
        mem := t.mem
        frameValid := true
        encClamped := t.encClamped
        frameCount := s.frameCount + 1#32
        event := s.event ||| (if t.encClamped then evFrame ||| evWarn else evFrame)
        retryCnt := 0
        seq := .pause .cycle
        trace := .wait .cycle s.params.cycleMs :: .emit f :: s.trace } ∧
      HoldsFrame t (pixelOf s.params s.ee s.ta s.cp s.ir) f ∧ frameMemFrame s.mem t.mem)

/-! ### Bus frames -/

/-- R121 to R126, R134, R166: a read frame's transaction goes to its unit and its answer is committed as the frame
decides; a failure keeps the data and clears the validity bit. Running a frame on its own is the model's choice (log
13). -/
def Obligations.ReadFramesComplete : Prop :=
  ∀ s : State,
    (s.busAnswer 256 = none → frameLeaves .eeDump s
      { sentFrame 0x50#7 (.busWriteRead [0x00#8] 256 none) s with eeValid := false }) ∧
    (∀ e, s.busAnswer 256 = some e → ∃ n, frameLeaves .eeDump s
        { sentFrame 0x50#7 (.busWriteRead [0x00#8] 256 (some e)) s with mem := n, eeValid := true } ∧
      ∀ a, n.read a = if 0x100 ≤ a ∧ a < 0x200 then e.getD (a - 0x100) 0#8 else s.mem.read a) ∧
    (s.busAnswer 128 = none → frameLeaves .irRead s
      { sentFrame 0x60#7 (.busWriteRead [0x02#8, 0x00#8, 0x01#8, 0x40#8] 128 none) s with irValid := false }) ∧
    (∀ b, s.busAnswer 128 = some b → ∃ n, frameLeaves .irRead s
        { sentFrame 0x60#7 (.busWriteRead [0x02#8, 0x00#8, 0x01#8, 0x40#8] 128 (some b)) s with mem := n, irValid := true } ∧
      ∀ a, n.read a = if 0x200 ≤ a ∧ a < 0x280 then b.getD (a - 0x200) 0#8 else s.mem.read a) ∧
    (s.busAnswer 2 = none →
      frameLeaves .cfgRead s { sentFrame 0x60#7 (.busWriteRead [0x02#8, 0x92#8, 0x00#8, 0x01#8] 2 none) s with
        cfgValid := false, cfgShown := false } ∧
      frameLeaves .ptatRead s { sentFrame 0x60#7 (.busWriteRead [0x02#8, 0x90#8, 0x00#8, 0x01#8] 2 none) s with
        ptatValid := false } ∧
      frameLeaves .cpRead s { sentFrame 0x60#7 (.busWriteRead [0x02#8, 0x91#8, 0x00#8, 0x01#8] 2 none) s with
        cpValid := false }) ∧
    (∀ b0 b1, s.busAnswer 2 = some [b0, b1] →
      frameLeaves .cfgRead s { sentFrame 0x60#7 (.busWriteRead [0x02#8, 0x92#8, 0x00#8, 0x01#8] 2 (some [b0, b1])) s with
        cfgLsb := b0, cfgMsb := b1, cfgValid := true, cfgShown := true } ∧
      frameLeaves .ptatRead s { sentFrame 0x60#7 (.busWriteRead [0x02#8, 0x90#8, 0x00#8, 0x01#8] 2 (some [b0, b1])) s with
        ptat := b1 ++ b0, ptatValid := true } ∧
      frameLeaves .cpRead s { sentFrame 0x60#7 (.busWriteRead [0x02#8, 0x91#8, 0x00#8, 0x01#8] 2 (some [b0, b1])) s with
        cp := b1 ++ b0, cpValid := true })

/-- R128 to R130, R155: a write frame's transaction goes to 0x60 with exactly its bytes, whatever its check bytes; a
trim write changes no data, a configuration write clears CFG_VALID on either answer. Running a frame on its own is the
model's choice (log 13). -/
def Obligations.WriteFramesComplete : Prop :=
  ∀ (s : State) (c v l d m : Byte) (ok : Bool), (s.busAnswer 0).isSome = ok →
    frameLeaves (.trimWrite c v) s (sentFrame 0x60#7 (.busWrite [0x04#8, c, v, 0x56#8, 0x00#8] ok) s) ∧
    frameLeaves (.cfgWrite c l d m) s
      { sentFrame 0x60#7 (.busWrite [0x03#8, c, l, d, m] ok) s with cfgValid := false }

/-! ### The host window -/

/-- R26, R27, R37: EVENT is write-one-to-clear, IRQ_EN takes its five bits, and a write to any other offset than CMD has
no effect. -/
def Obligations.HostWrites : Prop :=
  ∀ (s : State) (a : BitVec 12) (v : Word) (rest : List Input), a.toNat % 4 = 0 →
    s.inputs = .hostWrite 4 a v :: rest →
    (a = 0x008#12 → ∃ ev, step s = .next { s with inputs := rest, event := ev } ∧
      ∀ k < 5, ev.getLsbD k = (s.event.getLsbD k && !v.getLsbD k)) ∧
    (a = 0x00C#12 → ∃ en, step s = .next { s with inputs := rest, irqEn := en } ∧
      ∀ k < 5, en.getLsbD k = v.getLsbD k) ∧
    (a ≠ 0x000#12 → a ≠ 0x008#12 → a ≠ 0x00C#12 → step s = .next { s with inputs := rest })

/-- R23, R37, R49, R63: what a host read of each register and of each data window returns (`windowRead`, whose values
`DataWindows` states), and that no register changes; an unspecified part returns the free value of this read (what is
unspecified: the model's reading, log 8). -/
def Obligations.HostReadsRegisters : Prop :=
  ∀ (s : State) (a : BitVec 12) (rest : List Input) (d : Word), a.toNat % 4 = 0 →
    s.inputs = .hostRead 4 a :: rest → Config.drawWord s.drawCount = d →
    ∃ r, step s = .next { s with inputs := rest, hostData := r, drawCount := s.drawCount + 1 } ∧
      (a = 0x000#12 → r = s.cmd) ∧ (a = 0x004#12 → r = s.statusWord) ∧
      (a = 0x008#12 → r = s.event.setWidth 32) ∧ (a = 0x00C#12 → r = s.irqEn.setWidth 32) ∧
      (a = 0x010#12 → r.extractLsb' 20 12 = 0#12 ∧
        r.extractLsb' 16 4 = (if s.rateValid then s.rateCode else d.extractLsb' 16 4) ∧
        r.extractLsb' 0 16 = if s.cfgShown then s.cfgMsb ++ s.cfgLsb else d.extractLsb' 0 16) ∧
      (a = 0x014#12 → r.extractLsb' 16 16 = 0#16 ∧
        r.extractLsb' 0 16 = if s.ptatValid then s.ptat else d.extractLsb' 0 16) ∧
      (a = 0x018#12 → r.extractLsb' 16 16 = 0#16 ∧
        r.extractLsb' 0 16 = if s.cpValid then s.cp else d.extractLsb' 0 16) ∧
      (a = 0x01C#12 → r = s.frameCount) ∧
      (a = 0x020#12 → r = if s.taShown then s.ta.extractLsb' 0 32 else d) ∧
      (a = 0x024#12 → r = if s.taShown then s.ta.extractLsb' 32 32 else d) ∧
      ((0x100 ≤ a.toNat ∧ a.toNat < 0x300) ∨ (0x400 ≤ a.toNat ∧ a.toNat < 0x600) → r = s.windowRead a.toNat d) ∧
      ((0x028 ≤ a.toNat ∧ a.toNat < 0x100) ∨ (0x300 ≤ a.toNat ∧ a.toNat < 0x400) ∨ 0x600 ≤ a.toNat → r = 0#32)

/-- R33 to R36, R49: the data windows pack the lower-indexed element into the less significant bits; while its validity
bit is 0 a window returns the free value of the read (log 8). -/
def Obligations.DataWindows : Prop :=
  ∀ (s : State) (d : Word),
    (∀ w < 64, s.windowRead (0x100 + 4 * w) d = if s.eeValid then
      s.ee (BitVec.ofNat 8 (4 * w + 3)) ++ s.ee (BitVec.ofNat 8 (4 * w + 2)) ++ s.ee (BitVec.ofNat 8 (4 * w + 1)) ++
        s.ee (BitVec.ofNat 8 (4 * w)) else d) ∧
    (∀ w < 32, s.windowRead (0x200 + 4 * w) d = if s.irValid then s.ir (2 * w + 1) ++ s.ir (2 * w) else d) ∧
    (∀ w < 32, s.windowRead (0x280 + 4 * w) d = if s.frameValid then s.enc (2 * w + 1) ++ s.enc (2 * w) else d) ∧
    (∀ l < 64,
      s.windowRead (0x400 + 8 * l) d = (if s.frameValid then (s.temp l).extractLsb' 0 32 else d) ∧
      s.windowRead (0x400 + 8 * l + 4) d = (if s.frameValid then (s.temp l).extractLsb' 32 32 else d))

/-- R25, R44, R290: the bits of STATUS, with the codes of its two coded fields. R300: the interrupt output is high
exactly when an enabled EVENT bit is pending. -/
def Obligations.StatusLayoutAndInterruptLevel : Prop :=
  ∀ s : State,
    (s.irq = true ↔ ∃ k < 5, s.event.getLsbD k = true ∧ s.irqEn.getLsbD k = true) ∧
    let w := s.statusWord
    w.extractLsb' 1 3 = (match s.loopState with
      | .uninitialized => 0#3
      | .initializing => 1#3
      | .ready => 2#3
      | .faulted => 3#3
      | .halted => 4#3) ∧
    w.extractLsb' 16 8 = (match s.lastCause with
      | .none => 0x00#8
      | .busTransactionFailed => 0x01#8
      | .calibrationImplausible => 0x02#8
      | .powerOnReset => 0x03#8
      | .frameReadFailed => 0x04#8
      | .illegalCommand => 0x05#8
      | .commandWhileBusy => 0x06#8
      | .sessionClosed => 0x07#8
      | .eepromNotValid => 0x08#8
      | .dataNotValid => 0x09#8
      | .stopped => 0x0A#8) ∧
    w.getLsbD 0 = s.busy ∧ w.getLsbD 4 = s.sessionOpen ∧
    w.getLsbD 5 = s.eeValid ∧ w.getLsbD 6 = s.cfgValid ∧ w.getLsbD 7 = s.ptatValid ∧ w.getLsbD 8 = s.cpValid ∧
    w.getLsbD 9 = s.irValid ∧ w.getLsbD 10 = s.taValid ∧ w.getLsbD 11 = s.frameValid ∧ w.getLsbD 12 = s.termReq ∧
    w.getLsbD 13 = s.encClamped ∧ w.getLsbD 14 = s.rateValid ∧ w.getLsbD 15 = false ∧
    w.extractLsb' 24 7 = s.busAddr ∧ w.getLsbD 31 = false

/-- R61, R62: a host access of another width, or misaligned, gets no step; that the machine stops with a named fault is
the model's form of it (log 9). -/
def Obligations.UnadmittedAccessIsStuck : Prop :=
  ∀ (s : State) (n : Nat) (a : BitVec 12) (v : Word) (rest : List Input),
    (s.inputs = .hostRead n a :: rest ∨ s.inputs = .hostWrite n a v :: rest) →
    (n ≠ 4 → step s = .fault .hostAccessWidth) ∧
    (n = 4 → a.toNat % 4 ≠ 0 → step s = .fault .hostAccessMisaligned)

/-! ### Reset -/

/-- R331: the values the spec gives for reset. -/
def Obligations.ResetState : Prop :=
  State.reset.cmd = 0#32 ∧ State.reset.statusWord = 0#32 ∧ State.reset.eventWord = 0#32 ∧
  State.reset.irqEnWord = 0#32 ∧ State.reset.irq = false ∧ State.reset.frameCount = 0#32 ∧ State.reset.curOp = none ∧
  State.reset.seq = .idle ∧ State.reset.busClk = none ∧ State.reset.retryCnt = 0 ∧ State.reset.porObs = false ∧
  (∀ d, (State.reset.configWord d).extractLsb' 20 12 = 0#12)

/-- R330, R332, R77: a reset event, whatever the block was doing, leaves the reset state and issues no bus event; the
bus events issued stay issued, a request that is with the transport among them (U24; its form: log 11). It may fall
between the bus events of one operation: `BusSetAddr` is issued by one move and the request by the next. That the
parameters, the trace, the outside world's lists and the free values' counters go on is the model's choice (log 21). -/
def Obligations.ResetEvent : Prop :=
  (∀ (s : State) (rest : List Input), s.inputs = .reset :: rest →
    step s = .next { State.reset with
      params := s.params
      trace := .blockReset :: (match s.seq with
        | .bus o _ => .busCut o.bytes :: s.trace
        | _ => s.trace)
      inputs := rest
      answers := s.answers
      reqCount := s.reqCount
      drawCount := s.drawCount
      hostData := s.hostData }) ∧
  ∀ (s : State) (o : BusOp) (k : Cont) (rest : List Input), s.busy = true → s.busPort = none →
    s.inputs = .advance :: .reset :: rest →
    (s.sessionOpen = true → s.seq = .op o k → step s = .next { s with
      inputs := .reset :: rest, seq := .request o k, trace := .busSetAddr o.target :: s.trace }) ∧
    (s.seq = .request o k → step s = .next { s with
      inputs := .reset :: rest, seq := .bus o k, busPort := some (encode o.frame) })

/-- The state after reset meets every invariant below. -/
def Obligations.ResetMeetsInvariants : Prop :=
  State.reset.mem.wf ∧ State.reset.memMapped ∧ State.reset.Sound ∧ State.reset.dataReady = true ∧ State.reset.gated ∧
  State.reset.emissionsAgree

/-! ### Invariants of every step -/

/-- Every step keeps the memory canonical and inside the data stores (R23, R33 to R36). -/
def Obligations.MemoryStaysCanonical : Prop :=
  ∀ s t : State, s.mem.wf → s.memMapped → step s = .next t → t.mem.wf ∧ t.memMapped

/-- From a sound state whose next host access is admitted, a step always answers, whatever the oracle says (R67), and
the next state is sound: sessions open in order at 25 kHz with the settle wait before any transaction (R150, R336,
R337), every transaction is targeted at its own unit (R134, R338) and well-framed (R130), begins and ends pair (R272),
and BUSY is 1 exactly while a command executes (R90, R296). -/
def Obligations.SoundStateKept : Prop :=
  ∀ s : State, s.Sound → s.admitted → ∃ t, step s = .next t ∧ t.Sound

/-- In every sound state the data a position relies on is valid, and every step keeps it so: in particular the cycle's
frame computation never finds a validity bit 0 (R49, R267). -/
def Obligations.DataReadyKept : Prop :=
  ∀ s t : State, s.Sound → s.dataReady = true → step s = .next t → t.dataReady = true

/-- R212: TA_VALID is 1 exactly when the stored TA passed the gate; every step keeps it so. -/
def Obligations.TaGateKept : Prop := ∀ s t : State, s.gated → step s = .next t → t.gated

/-- R31, R35, R75, R229: FRAME_COUNT counts the emissions modulo 2^32 and OUT_ENC holds the last emitted frame; every
step keeps it so (an emission is one commit, log 24). -/
def Obligations.EmissionsAgreeKept : Prop :=
  ∀ s t : State, s.Sound → s.emissionsAgree → step s = .next t → t.emissionsAgree

/-- With no outside event due, one step from a sound state with no frame on the port ends the command that executes or
brings RUN to a pause (R256, R271, R276): every command but RUN ends. What one step covers is the model's choice (log
3). -/
def Obligations.EveryCommandComesToRest : Prop :=
  ∀ s t : State, s.Sound → s.inputs = [] → s.busPort = none → step s = .next t →
    t.atRest = true ∧ (t.busy = true → ∃ p, t.seq = .pause p)
end

