-- ==== Sys2Proof/Laws/Config.lean ====
section
/-! SUPPORT. The values of the source's constants (spec/00_scope.md R7), one lemma each. -/

namespace Sys2Proof.Config

@[simp] theorem nRows_eq : nRows = 4 := rfl
@[simp] theorem nCols_eq : nCols = 16 := rfl
@[simp] theorem eeSize_eq : eeSize = 256 := rfl
@[simp] theorem addrEe_eq : addrEe = 0x50#7 := rfl
@[simp] theorem addrReg_eq : addrReg = 0x60#7 := rfl
@[simp] theorem busClkHz_eq : busClkHz = 25000 := rfl
@[simp] theorem opcEeDump_eq : opcEeDump = 0x00#8 := rfl
@[simp] theorem opcRegRead_eq : opcRegRead = 0x02#8 := rfl
@[simp] theorem opcCfgWrite_eq : opcCfgWrite = 0x03#8 := rfl
@[simp] theorem opcTrimWrite_eq : opcTrimWrite = 0x04#8 := rfl
@[simp] theorem kTrim_eq : kTrim = 0xAA#8 := rfl
@[simp] theorem kCfg_eq : kCfg = 0x55#8 := rfl
@[simp] theorem regIr_eq : regIr = 0x00#8 := rfl
@[simp] theorem irStep_eq : irStep = 0x01#8 := rfl
@[simp] theorem irCount_eq : irCount = 0x40#8 := rfl
@[simp] theorem regPtat_eq : regPtat = 0x90#8 := rfl
@[simp] theorem regCp_eq : regCp = 0x91#8 := rfl
@[simp] theorem regCfg_eq : regCfg = 0x92#8 := rfl
@[simp] theorem aCfgL_eq : aCfgL = 0xF5#8 := rfl
@[simp] theorem aCfgH_eq : aCfgH = 0xF6#8 := rfl
@[simp] theorem aTrim_eq : aTrim = 0xF7#8 := rfl
@[simp] theorem epsDiv_eq : epsDiv = 32768 := rfl
@[simp] theorem tgcDiv_eq : tgcDiv = 32 := rfl
@[simp] theorem tRef_eq : tRef = 25 := rfl
@[simp] theorem kKelvinNum_eq : kKelvinNum = 27315 := rfl
@[simp] theorem kKelvinDen_eq : kKelvinDen = 100 := rfl
@[simp] theorem encScale_eq : encScale = 100 := rfl
@[simp] theorem taMax_eq : taMax = 350 := rfl
@[simp] theorem initRate_eq : initRate = .hz4 := rfl
@[simp] theorem fallbackRate_eq : fallbackRate = .hz1 := rfl
@[simp] theorem porBit_eq : porBit = 2 := rfl
@[simp] theorem nPix_eq : nPix = 64 := rfl
@[simp] theorem initRate2_eq : initRate2 = 8#16 := rfl

end Sys2Proof.Config
end

