-- ==== Sys2Proof/Laws/Memory.lean ====
section
/-! SUPPORT. The laws of the memory operations: reading after a store, the canonical form, and the length of the
oracle's responses. -/

namespace Sys2Proof.Machine

/-! ### Reading -/

@[simp] theorem Memory.read_nil (x : Nat) : Memory.read [] x = 0#8 := rfl

@[simp] theorem Memory.read_cons (a : Nat) (b : Byte) (t : Memory) (x : Nat) :
    Memory.read ((a, b) :: t) x = if a = x then b else Memory.read t x := rfl

/-- An address that no cell has reads as an unlisted one. -/
theorem Memory.read_of_not_mem (m : Memory) (x : Nat) (h : ∀ c ∈ m, c.1 ≠ x) : m.read x = 0#8 := by
  induction m with
  | nil => rfl
  | cons c t ih =>
    obtain ⟨a, b⟩ := c
    rw [Memory.read_cons, if_neg (h (a, b) List.mem_cons_self)]
    exact ih fun c hc => h c (List.mem_cons_of_mem _ hc)

/-- Reading through a filter on addresses. -/
theorem Memory.read_filter (m : Memory) (p : Nat → Bool) (x : Nat) :
    Memory.read (m.filter fun c => p c.1) x = if p x then m.read x else 0#8 := by
  induction m with
  | nil => simp
  | cons c t ih =>
    obtain ⟨a, b⟩ := c
    by_cases hp : p a
    · rw [List.filter_cons_of_pos (by simpa using hp), Memory.read_cons, Memory.read_cons, ih]
      by_cases hx : a = x
      · subst hx; simp [hp]
      · simp [hx]
    · rw [List.filter_cons_of_neg (by simpa using hp), ih, Memory.read_cons]
      by_cases hx : a = x
      · subst hx; simp [hp]
      · simp [hx]

/-- Reading through an append of which the first part does not hold the address. -/
theorem Memory.read_append_right (m n : Memory) (x : Nat) (h : ∀ c ∈ m, c.1 ≠ x) :
    Memory.read (m ++ n) x = n.read x := by
  induction m with
  | nil => rfl
  | cons c t ih =>
    obtain ⟨a, b⟩ := c
    rw [List.cons_append, Memory.read_cons, if_neg (h (a, b) List.mem_cons_self)]
    exact ih fun c hc => h c (List.mem_cons_of_mem _ hc)

/-- Reading through an append of which the second part does not hold the address. -/
theorem Memory.read_append_left (m n : Memory) (x : Nat) (h : ∀ c ∈ n, c.1 ≠ x) :
    Memory.read (m ++ n) x = m.read x := by
  induction m with
  | nil => exact Memory.read_of_not_mem n x h
  | cons c t ih =>
    obtain ⟨a, b⟩ := c
    rw [List.cons_append, Memory.read_cons, Memory.read_cons, ih]

/-! ### Cells -/

/-- Where the cells of a run of bytes lie, and that none holds the unlisted byte. -/
theorem Memory.mem_cells {bs : List Byte} {a : Nat} {c : Host.Cell} (h : c ∈ Memory.cells a bs) :
    a ≤ c.1 ∧ c.1 < a + bs.length ∧ c.2 ≠ Memory.unlisted := by
  induction bs generalizing a with
  | nil => simp [Memory.cells] at h
  | cons b t ih =>
    by_cases hb : b = Memory.unlisted
    · rw [Memory.cells, if_pos hb] at h
      have h' := ih h
      simp only [List.length_cons]
      exact ⟨by omega, by omega, h'.2.2⟩
    · rw [Memory.cells, if_neg hb] at h
      rcases List.mem_cons.1 h with rfl | h
      · simp [hb]
      · have h' := ih h
        simp only [List.length_cons]
        exact ⟨by omega, by omega, h'.2.2⟩

/-- The cells of a run of bytes read as the bytes. -/
theorem Memory.read_cells (bs : List Byte) (a k : Nat) (h : k < bs.length) :
    (Memory.cells a bs).read (a + k) = bs.getD k 0#8 := by
  induction bs generalizing a k with
  | nil => simp at h
  | cons b t ih =>
    have htail : (k' : Nat) → k = k' + 1 → (Memory.cells (a + 1) t).read (a + k) = (b :: t).getD k 0#8 := by
      intro k' hk
      subst hk
      have := ih (a + 1) k' (by simpa using h)
      rw [show a + (k' + 1) = a + 1 + k' by omega, this]
      simp
    cases k with
    | zero =>
      by_cases hb : b = Memory.unlisted
      · rw [Memory.cells, if_pos hb, Memory.read_of_not_mem]
        · simpa [Memory.unlisted] using hb.symm
        · intro c hc; have := Memory.mem_cells hc; omega
      · rw [Memory.cells, if_neg hb]; simp
    | succ k' =>
      by_cases hb : b = Memory.unlisted
      · rw [Memory.cells, if_pos hb]; exact htail k' rfl
      · rw [Memory.cells, if_neg hb, Memory.read_cons, if_neg (by omega)]; exact htail k' rfl

theorem Memory.cells_sorted (bs : List Byte) (a : Nat) : (Memory.cells a bs).Pairwise fun c d => c.1 < d.1 := by
  induction bs generalizing a with
  | nil => exact List.Pairwise.nil
  | cons b t ih =>
    by_cases hb : b = Memory.unlisted
    · rw [Memory.cells, if_pos hb]; exact ih _
    · rw [Memory.cells, if_neg hb]
      exact List.Pairwise.cons (fun c hc => by have := Memory.mem_cells hc; simp only; omega) (ih _)

/-! ### Stores -/

/-- Which cells a store leaves: the new ones, and the old ones outside the stored run. -/
theorem Memory.mem_writeBlock {m : Memory} {a : Nat} {bs : List Byte} {c : Host.Cell} (h : c ∈ m.writeBlock a bs) :
    (c ∈ Memory.cells a bs) ∨ (c ∈ m ∧ (c.1 < a ∨ a + bs.length ≤ c.1)) := by
  simp only [Memory.writeBlock, List.mem_append, List.mem_filter, decide_eq_true_eq] at h
  tauto

/-- Reading after a store: the stored byte inside the run, the old byte outside it. -/
theorem Memory.read_writeBlock (m : Memory) (a : Nat) (bs : List Byte) (x : Nat) :
    (m.writeBlock a bs).read x = if a ≤ x ∧ x < a + bs.length then bs.getD (x - a) 0#8 else m.read x := by
  unfold Memory.writeBlock
  split
  · next h =>
    obtain ⟨k, rfl⟩ : ∃ k, x = a + k := ⟨x - a, by omega⟩
    rw [Memory.read_append_left, Memory.read_append_right, Memory.read_cells _ _ _ (by omega)]
    · simp
    · intro c hc; simp only [List.mem_filter, decide_eq_true_eq] at hc; omega
    · intro c hc; simp only [List.mem_filter, decide_eq_true_eq] at hc; omega
  · next h =>
    by_cases hx : x < a
    · rw [Memory.read_append_left, Memory.read_append_left,
        Memory.read_filter m (fun n => decide (n < a))]
      · simp [hx]
      · intro c hc; have := Memory.mem_cells hc; omega
      · intro c hc; simp only [List.mem_filter, decide_eq_true_eq] at hc; omega
    · rw [Memory.read_append_right, Memory.read_filter m (fun n => decide (a + bs.length ≤ n))]
      · rw [if_pos]; simp only [decide_eq_true_eq]; omega
      · intro c hc
        rcases List.mem_append.1 hc with hc | hc
        · simp only [List.mem_filter, decide_eq_true_eq] at hc; omega
        · have := Memory.mem_cells hc; omega

/-- A store keeps the canonical form. -/
theorem Memory.wf_writeBlock (m : Memory) (a : Nat) (bs : List Byte) (h : m.wf) : (m.writeBlock a bs).wf := by
  refine ⟨?_, ?_⟩
  · unfold Memory.writeBlock
    refine List.pairwise_append.2 ⟨List.pairwise_append.2 ⟨h.1.filter _, Memory.cells_sorted _ _, ?_⟩, h.1.filter _, ?_⟩
    · intro c hc d hd
      have := Memory.mem_cells hd
      simp only [List.mem_filter, decide_eq_true_eq] at hc
      omega
    · intro c hc d hd
      simp only [List.mem_filter, decide_eq_true_eq] at hd
      rcases List.mem_append.1 hc with hc | hc
      · simp only [List.mem_filter, decide_eq_true_eq] at hc; omega
      · have := Memory.mem_cells hc; omega
  · intro c hc
    rcases Memory.mem_writeBlock hc with hc | hc
    · exact (Memory.mem_cells hc).2.2
    · exact h.2 c hc.1

/-! ### Responses -/

@[simp] theorem fitResponse_length (req n : Nat) (bs : List Byte) : (fitResponse req n bs).length = n := by
  simp [fitResponse]

/-- A scripted answer of the right length is the response. -/
theorem fitResponse_of_length (req : Nat) (bs : List Byte) : fitResponse req bs.length bs = bs := by
  apply List.ext_getElem (by simp)
  intro k h1 h2
  simp [fitResponse, List.getD_eq_getElem?_getD, h2]

/-- A response has exactly the length the request asks for (spec/20_memory.md R66). -/
theorem busAnswer_length {s : State} {n : Nat} {bs : List Byte} (h : s.busAnswer n = some bs) : bs.length = n := by
  unfold State.busAnswer at h
  split at h
  · cases h
  · cases h; simp
  · split at h
    · cases h; simp
    · cases h

end Sys2Proof.Machine
end

