-- ==== Sys2Proof/Laws/State.lean ====
section
/-! SUPPORT. What each named update of the state does to each field: one lemma per field per update, each true by
definition, so that no proof unfolds a record update. -/

namespace Sys2Proof.Machine

/-! ### record -/

@[simp] theorem record_cmd (s : State) (e : Event) : (s.record e).cmd = s.cmd := rfl
@[simp] theorem record_busy (s : State) (e : Event) : (s.record e).busy = s.busy := rfl
@[simp] theorem record_loopState (s : State) (e : Event) : (s.record e).loopState = s.loopState := rfl
@[simp] theorem record_sessionOpen (s : State) (e : Event) : (s.record e).sessionOpen = s.sessionOpen := rfl
@[simp] theorem record_eeValid (s : State) (e : Event) : (s.record e).eeValid = s.eeValid := rfl
@[simp] theorem record_cfgValid (s : State) (e : Event) : (s.record e).cfgValid = s.cfgValid := rfl
@[simp] theorem record_ptatValid (s : State) (e : Event) : (s.record e).ptatValid = s.ptatValid := rfl
@[simp] theorem record_cpValid (s : State) (e : Event) : (s.record e).cpValid = s.cpValid := rfl
@[simp] theorem record_irValid (s : State) (e : Event) : (s.record e).irValid = s.irValid := rfl
@[simp] theorem record_taValid (s : State) (e : Event) : (s.record e).taValid = s.taValid := rfl
@[simp] theorem record_frameValid (s : State) (e : Event) : (s.record e).frameValid = s.frameValid := rfl
@[simp] theorem record_termReq (s : State) (e : Event) : (s.record e).termReq = s.termReq := rfl
@[simp] theorem record_encClamped (s : State) (e : Event) : (s.record e).encClamped = s.encClamped := rfl
@[simp] theorem record_rateValid (s : State) (e : Event) : (s.record e).rateValid = s.rateValid := rfl
@[simp] theorem record_lastCause (s : State) (e : Event) : (s.record e).lastCause = s.lastCause := rfl
@[simp] theorem record_busAddr (s : State) (e : Event) : (s.record e).busAddr = s.busAddr := rfl
@[simp] theorem record_event (s : State) (e : Event) : (s.record e).event = s.event := rfl
@[simp] theorem record_irqEn (s : State) (e : Event) : (s.record e).irqEn = s.irqEn := rfl
@[simp] theorem record_cfgLsb (s : State) (e : Event) : (s.record e).cfgLsb = s.cfgLsb := rfl
@[simp] theorem record_cfgMsb (s : State) (e : Event) : (s.record e).cfgMsb = s.cfgMsb := rfl
@[simp] theorem record_rateCode (s : State) (e : Event) : (s.record e).rateCode = s.rateCode := rfl
@[simp] theorem record_ptat (s : State) (e : Event) : (s.record e).ptat = s.ptat := rfl
@[simp] theorem record_cp (s : State) (e : Event) : (s.record e).cp = s.cp := rfl
@[simp] theorem record_frameCount (s : State) (e : Event) : (s.record e).frameCount = s.frameCount := rfl
@[simp] theorem record_ta (s : State) (e : Event) : (s.record e).ta = s.ta := rfl
@[simp] theorem record_mem (s : State) (e : Event) : (s.record e).mem = s.mem := rfl
@[simp] theorem record_curOp (s : State) (e : Event) : (s.record e).curOp = s.curOp := rfl
@[simp] theorem record_seq (s : State) (e : Event) : (s.record e).seq = s.seq := rfl
@[simp] theorem record_busClk (s : State) (e : Event) : (s.record e).busClk = s.busClk := rfl
@[simp] theorem record_retryCnt (s : State) (e : Event) : (s.record e).retryCnt = s.retryCnt := rfl
@[simp] theorem record_porObs (s : State) (e : Event) : (s.record e).porObs = s.porObs := rfl
@[simp] theorem record_params (s : State) (e : Event) : (s.record e).params = s.params := rfl
@[simp] theorem record_busPort (s : State) (e : Event) : (s.record e).busPort = s.busPort := rfl
@[simp] theorem record_trace (s : State) (e : Event) : (s.record e).trace = e :: s.trace := rfl
@[simp] theorem record_inputs (s : State) (e : Event) : (s.record e).inputs = s.inputs := rfl
@[simp] theorem record_answers (s : State) (e : Event) : (s.record e).answers = s.answers := rfl
@[simp] theorem record_reqCount (s : State) (e : Event) : (s.record e).reqCount = s.reqCount := rfl
@[simp] theorem record_drawCount (s : State) (e : Event) : (s.record e).drawCount = s.drawCount := rfl
@[simp] theorem record_hostData (s : State) (e : Event) : (s.record e).hostData = s.hostData := rfl
@[simp] theorem record_cfgShown (s : State) (e : Event) : (s.record e).cfgShown = s.cfgShown := rfl
@[simp] theorem record_taShown (s : State) (e : Event) : (s.record e).taShown = s.taShown := rfl
@[simp] theorem record_ownCause (s : State) (e : Event) : (s.record e).ownCause = s.ownCause := rfl

/-! ### beginWait -/

@[simp] theorem beginWait_cmd (s : State) (k : WaitKind) : (s.beginWait k).cmd = s.cmd := rfl
@[simp] theorem beginWait_busy (s : State) (k : WaitKind) : (s.beginWait k).busy = s.busy := rfl
@[simp] theorem beginWait_loopState (s : State) (k : WaitKind) : (s.beginWait k).loopState = s.loopState := rfl
@[simp] theorem beginWait_sessionOpen (s : State) (k : WaitKind) : (s.beginWait k).sessionOpen = s.sessionOpen := rfl
@[simp] theorem beginWait_eeValid (s : State) (k : WaitKind) : (s.beginWait k).eeValid = s.eeValid := rfl
@[simp] theorem beginWait_cfgValid (s : State) (k : WaitKind) : (s.beginWait k).cfgValid = s.cfgValid := rfl
@[simp] theorem beginWait_ptatValid (s : State) (k : WaitKind) : (s.beginWait k).ptatValid = s.ptatValid := rfl
@[simp] theorem beginWait_cpValid (s : State) (k : WaitKind) : (s.beginWait k).cpValid = s.cpValid := rfl
@[simp] theorem beginWait_irValid (s : State) (k : WaitKind) : (s.beginWait k).irValid = s.irValid := rfl
@[simp] theorem beginWait_taValid (s : State) (k : WaitKind) : (s.beginWait k).taValid = s.taValid := rfl
@[simp] theorem beginWait_frameValid (s : State) (k : WaitKind) : (s.beginWait k).frameValid = s.frameValid := rfl
@[simp] theorem beginWait_termReq (s : State) (k : WaitKind) : (s.beginWait k).termReq = s.termReq := rfl
@[simp] theorem beginWait_encClamped (s : State) (k : WaitKind) : (s.beginWait k).encClamped = s.encClamped := rfl
@[simp] theorem beginWait_rateValid (s : State) (k : WaitKind) : (s.beginWait k).rateValid = s.rateValid := rfl
@[simp] theorem beginWait_lastCause (s : State) (k : WaitKind) : (s.beginWait k).lastCause = s.lastCause := rfl
@[simp] theorem beginWait_busAddr (s : State) (k : WaitKind) : (s.beginWait k).busAddr = s.busAddr := rfl
@[simp] theorem beginWait_event (s : State) (k : WaitKind) : (s.beginWait k).event = s.event := rfl
@[simp] theorem beginWait_irqEn (s : State) (k : WaitKind) : (s.beginWait k).irqEn = s.irqEn := rfl
@[simp] theorem beginWait_cfgLsb (s : State) (k : WaitKind) : (s.beginWait k).cfgLsb = s.cfgLsb := rfl
@[simp] theorem beginWait_cfgMsb (s : State) (k : WaitKind) : (s.beginWait k).cfgMsb = s.cfgMsb := rfl
@[simp] theorem beginWait_rateCode (s : State) (k : WaitKind) : (s.beginWait k).rateCode = s.rateCode := rfl
@[simp] theorem beginWait_ptat (s : State) (k : WaitKind) : (s.beginWait k).ptat = s.ptat := rfl
@[simp] theorem beginWait_cp (s : State) (k : WaitKind) : (s.beginWait k).cp = s.cp := rfl
@[simp] theorem beginWait_frameCount (s : State) (k : WaitKind) : (s.beginWait k).frameCount = s.frameCount := rfl
@[simp] theorem beginWait_ta (s : State) (k : WaitKind) : (s.beginWait k).ta = s.ta := rfl
@[simp] theorem beginWait_mem (s : State) (k : WaitKind) : (s.beginWait k).mem = s.mem := rfl
@[simp] theorem beginWait_curOp (s : State) (k : WaitKind) : (s.beginWait k).curOp = s.curOp := rfl
@[simp] theorem beginWait_seq (s : State) (k : WaitKind) : (s.beginWait k).seq = s.seq := rfl
@[simp] theorem beginWait_busClk (s : State) (k : WaitKind) : (s.beginWait k).busClk = s.busClk := rfl
@[simp] theorem beginWait_retryCnt (s : State) (k : WaitKind) : (s.beginWait k).retryCnt = s.retryCnt := rfl
@[simp] theorem beginWait_porObs (s : State) (k : WaitKind) : (s.beginWait k).porObs = s.porObs := rfl
@[simp] theorem beginWait_params (s : State) (k : WaitKind) : (s.beginWait k).params = s.params := rfl
@[simp] theorem beginWait_busPort (s : State) (k : WaitKind) : (s.beginWait k).busPort = s.busPort := rfl
@[simp] theorem beginWait_trace (s : State) (k : WaitKind) : (s.beginWait k).trace = .wait k (waitMin s.params k) :: s.trace := rfl
@[simp] theorem beginWait_inputs (s : State) (k : WaitKind) : (s.beginWait k).inputs = s.inputs := rfl
@[simp] theorem beginWait_answers (s : State) (k : WaitKind) : (s.beginWait k).answers = s.answers := rfl
@[simp] theorem beginWait_reqCount (s : State) (k : WaitKind) : (s.beginWait k).reqCount = s.reqCount := rfl
@[simp] theorem beginWait_drawCount (s : State) (k : WaitKind) : (s.beginWait k).drawCount = s.drawCount := rfl
@[simp] theorem beginWait_hostData (s : State) (k : WaitKind) : (s.beginWait k).hostData = s.hostData := rfl
@[simp] theorem beginWait_cfgShown (s : State) (k : WaitKind) : (s.beginWait k).cfgShown = s.cfgShown := rfl
@[simp] theorem beginWait_taShown (s : State) (k : WaitKind) : (s.beginWait k).taShown = s.taShown := rfl
@[simp] theorem beginWait_ownCause (s : State) (k : WaitKind) : (s.beginWait k).ownCause = s.ownCause := rfl

/-! ### takeAnswer -/

@[simp] theorem takeAnswer_cmd (s : State) : s.takeAnswer.cmd = s.cmd := rfl
@[simp] theorem takeAnswer_busy (s : State) : s.takeAnswer.busy = s.busy := rfl
@[simp] theorem takeAnswer_loopState (s : State) : s.takeAnswer.loopState = s.loopState := rfl
@[simp] theorem takeAnswer_sessionOpen (s : State) : s.takeAnswer.sessionOpen = s.sessionOpen := rfl
@[simp] theorem takeAnswer_eeValid (s : State) : s.takeAnswer.eeValid = s.eeValid := rfl
@[simp] theorem takeAnswer_cfgValid (s : State) : s.takeAnswer.cfgValid = s.cfgValid := rfl
@[simp] theorem takeAnswer_ptatValid (s : State) : s.takeAnswer.ptatValid = s.ptatValid := rfl
@[simp] theorem takeAnswer_cpValid (s : State) : s.takeAnswer.cpValid = s.cpValid := rfl
@[simp] theorem takeAnswer_irValid (s : State) : s.takeAnswer.irValid = s.irValid := rfl
@[simp] theorem takeAnswer_taValid (s : State) : s.takeAnswer.taValid = s.taValid := rfl
@[simp] theorem takeAnswer_frameValid (s : State) : s.takeAnswer.frameValid = s.frameValid := rfl
@[simp] theorem takeAnswer_termReq (s : State) : s.takeAnswer.termReq = s.termReq := rfl
@[simp] theorem takeAnswer_encClamped (s : State) : s.takeAnswer.encClamped = s.encClamped := rfl
@[simp] theorem takeAnswer_rateValid (s : State) : s.takeAnswer.rateValid = s.rateValid := rfl
@[simp] theorem takeAnswer_lastCause (s : State) : s.takeAnswer.lastCause = s.lastCause := rfl
@[simp] theorem takeAnswer_busAddr (s : State) : s.takeAnswer.busAddr = s.busAddr := rfl
@[simp] theorem takeAnswer_event (s : State) : s.takeAnswer.event = s.event := rfl
@[simp] theorem takeAnswer_irqEn (s : State) : s.takeAnswer.irqEn = s.irqEn := rfl
@[simp] theorem takeAnswer_cfgLsb (s : State) : s.takeAnswer.cfgLsb = s.cfgLsb := rfl
@[simp] theorem takeAnswer_cfgMsb (s : State) : s.takeAnswer.cfgMsb = s.cfgMsb := rfl
@[simp] theorem takeAnswer_rateCode (s : State) : s.takeAnswer.rateCode = s.rateCode := rfl
@[simp] theorem takeAnswer_ptat (s : State) : s.takeAnswer.ptat = s.ptat := rfl
@[simp] theorem takeAnswer_cp (s : State) : s.takeAnswer.cp = s.cp := rfl
@[simp] theorem takeAnswer_frameCount (s : State) : s.takeAnswer.frameCount = s.frameCount := rfl
@[simp] theorem takeAnswer_ta (s : State) : s.takeAnswer.ta = s.ta := rfl
@[simp] theorem takeAnswer_mem (s : State) : s.takeAnswer.mem = s.mem := rfl
@[simp] theorem takeAnswer_curOp (s : State) : s.takeAnswer.curOp = s.curOp := rfl
@[simp] theorem takeAnswer_seq (s : State) : s.takeAnswer.seq = s.seq := rfl
@[simp] theorem takeAnswer_busClk (s : State) : s.takeAnswer.busClk = s.busClk := rfl
@[simp] theorem takeAnswer_retryCnt (s : State) : s.takeAnswer.retryCnt = s.retryCnt := rfl
@[simp] theorem takeAnswer_porObs (s : State) : s.takeAnswer.porObs = s.porObs := rfl
@[simp] theorem takeAnswer_params (s : State) : s.takeAnswer.params = s.params := rfl
@[simp] theorem takeAnswer_busPort (s : State) : s.takeAnswer.busPort = s.busPort := rfl
@[simp] theorem takeAnswer_trace (s : State) : s.takeAnswer.trace = s.trace := rfl
@[simp] theorem takeAnswer_inputs (s : State) : s.takeAnswer.inputs = s.inputs := rfl
@[simp] theorem takeAnswer_answers (s : State) : s.takeAnswer.answers = s.answers.tail := rfl
@[simp] theorem takeAnswer_reqCount (s : State) : s.takeAnswer.reqCount = s.reqCount + 1 := rfl
@[simp] theorem takeAnswer_drawCount (s : State) : s.takeAnswer.drawCount = s.drawCount := rfl
@[simp] theorem takeAnswer_hostData (s : State) : s.takeAnswer.hostData = s.hostData := rfl
@[simp] theorem takeAnswer_cfgShown (s : State) : s.takeAnswer.cfgShown = s.cfgShown := rfl
@[simp] theorem takeAnswer_taShown (s : State) : s.takeAnswer.taShown = s.taShown := rfl
@[simp] theorem takeAnswer_ownCause (s : State) : s.takeAnswer.ownCause = s.ownCause := rfl

/-! ### commandEnd -/

@[simp] theorem commandEnd_cmd (e : CommandEnd) (s : State) : (commandEnd e s).cmd = s.cmd := rfl
@[simp] theorem commandEnd_busy (e : CommandEnd) (s : State) : (commandEnd e s).busy = false := rfl
@[simp] theorem commandEnd_loopState (e : CommandEnd) (s : State) : (commandEnd e s).loopState = s.loopState := rfl
@[simp] theorem commandEnd_sessionOpen (e : CommandEnd) (s : State) : (commandEnd e s).sessionOpen = s.sessionOpen := rfl
@[simp] theorem commandEnd_eeValid (e : CommandEnd) (s : State) : (commandEnd e s).eeValid = s.eeValid := rfl
@[simp] theorem commandEnd_cfgValid (e : CommandEnd) (s : State) : (commandEnd e s).cfgValid = s.cfgValid := rfl
@[simp] theorem commandEnd_ptatValid (e : CommandEnd) (s : State) : (commandEnd e s).ptatValid = s.ptatValid := rfl
@[simp] theorem commandEnd_cpValid (e : CommandEnd) (s : State) : (commandEnd e s).cpValid = s.cpValid := rfl
@[simp] theorem commandEnd_irValid (e : CommandEnd) (s : State) : (commandEnd e s).irValid = s.irValid := rfl
@[simp] theorem commandEnd_taValid (e : CommandEnd) (s : State) : (commandEnd e s).taValid = s.taValid := rfl
@[simp] theorem commandEnd_frameValid (e : CommandEnd) (s : State) : (commandEnd e s).frameValid = s.frameValid := rfl
@[simp] theorem commandEnd_termReq (e : CommandEnd) (s : State) : (commandEnd e s).termReq = s.termReq := rfl
@[simp] theorem commandEnd_encClamped (e : CommandEnd) (s : State) : (commandEnd e s).encClamped = s.encClamped := rfl
@[simp] theorem commandEnd_rateValid (e : CommandEnd) (s : State) : (commandEnd e s).rateValid = s.rateValid := rfl
@[simp] theorem commandEnd_lastCause (e : CommandEnd) (s : State) : (commandEnd e s).lastCause = e.lastCause s.ownCause := rfl
@[simp] theorem commandEnd_busAddr (e : CommandEnd) (s : State) : (commandEnd e s).busAddr = s.busAddr := rfl
@[simp] theorem commandEnd_event (e : CommandEnd) (s : State) : (commandEnd e s).event = s.event ||| e.events := rfl
@[simp] theorem commandEnd_irqEn (e : CommandEnd) (s : State) : (commandEnd e s).irqEn = s.irqEn := rfl
@[simp] theorem commandEnd_cfgLsb (e : CommandEnd) (s : State) : (commandEnd e s).cfgLsb = s.cfgLsb := rfl
@[simp] theorem commandEnd_cfgMsb (e : CommandEnd) (s : State) : (commandEnd e s).cfgMsb = s.cfgMsb := rfl
@[simp] theorem commandEnd_rateCode (e : CommandEnd) (s : State) : (commandEnd e s).rateCode = s.rateCode := rfl
@[simp] theorem commandEnd_ptat (e : CommandEnd) (s : State) : (commandEnd e s).ptat = s.ptat := rfl
@[simp] theorem commandEnd_cp (e : CommandEnd) (s : State) : (commandEnd e s).cp = s.cp := rfl
@[simp] theorem commandEnd_frameCount (e : CommandEnd) (s : State) : (commandEnd e s).frameCount = s.frameCount := rfl
@[simp] theorem commandEnd_ta (e : CommandEnd) (s : State) : (commandEnd e s).ta = s.ta := rfl
@[simp] theorem commandEnd_mem (e : CommandEnd) (s : State) : (commandEnd e s).mem = s.mem := rfl
@[simp] theorem commandEnd_curOp (e : CommandEnd) (s : State) : (commandEnd e s).curOp = none := rfl
@[simp] theorem commandEnd_seq (e : CommandEnd) (s : State) : (commandEnd e s).seq = .idle := rfl
@[simp] theorem commandEnd_busClk (e : CommandEnd) (s : State) : (commandEnd e s).busClk = s.busClk := rfl
@[simp] theorem commandEnd_retryCnt (e : CommandEnd) (s : State) : (commandEnd e s).retryCnt = s.retryCnt := rfl
@[simp] theorem commandEnd_porObs (e : CommandEnd) (s : State) : (commandEnd e s).porObs = s.porObs := rfl
@[simp] theorem commandEnd_params (e : CommandEnd) (s : State) : (commandEnd e s).params = s.params := rfl
@[simp] theorem commandEnd_busPort (e : CommandEnd) (s : State) : (commandEnd e s).busPort = s.busPort := rfl
@[simp] theorem commandEnd_trace (e : CommandEnd) (s : State) : (commandEnd e s).trace = s.trace := rfl
@[simp] theorem commandEnd_inputs (e : CommandEnd) (s : State) : (commandEnd e s).inputs = s.inputs := rfl
@[simp] theorem commandEnd_answers (e : CommandEnd) (s : State) : (commandEnd e s).answers = s.answers := rfl
@[simp] theorem commandEnd_reqCount (e : CommandEnd) (s : State) : (commandEnd e s).reqCount = s.reqCount := rfl
@[simp] theorem commandEnd_drawCount (e : CommandEnd) (s : State) : (commandEnd e s).drawCount = s.drawCount := rfl
@[simp] theorem commandEnd_hostData (e : CommandEnd) (s : State) : (commandEnd e s).hostData = s.hostData := rfl
@[simp] theorem commandEnd_cfgShown (e : CommandEnd) (s : State) : (commandEnd e s).cfgShown = s.cfgShown := rfl
@[simp] theorem commandEnd_taShown (e : CommandEnd) (s : State) : (commandEnd e s).taShown = s.taShown := rfl
@[simp] theorem commandEnd_ownCause (e : CommandEnd) (s : State) : (commandEnd e s).ownCause = .none := rfl

/-! ### rejectWord -/

@[simp] theorem rejectWord_cmd (c : Cause) (s : State) : (rejectWord c s).cmd = s.cmd := rfl
@[simp] theorem rejectWord_busy (c : Cause) (s : State) : (rejectWord c s).busy = s.busy := rfl
@[simp] theorem rejectWord_loopState (c : Cause) (s : State) : (rejectWord c s).loopState = s.loopState := rfl
@[simp] theorem rejectWord_sessionOpen (c : Cause) (s : State) : (rejectWord c s).sessionOpen = s.sessionOpen := rfl
@[simp] theorem rejectWord_eeValid (c : Cause) (s : State) : (rejectWord c s).eeValid = s.eeValid := rfl
@[simp] theorem rejectWord_cfgValid (c : Cause) (s : State) : (rejectWord c s).cfgValid = s.cfgValid := rfl
@[simp] theorem rejectWord_ptatValid (c : Cause) (s : State) : (rejectWord c s).ptatValid = s.ptatValid := rfl
@[simp] theorem rejectWord_cpValid (c : Cause) (s : State) : (rejectWord c s).cpValid = s.cpValid := rfl
@[simp] theorem rejectWord_irValid (c : Cause) (s : State) : (rejectWord c s).irValid = s.irValid := rfl
@[simp] theorem rejectWord_taValid (c : Cause) (s : State) : (rejectWord c s).taValid = s.taValid := rfl
@[simp] theorem rejectWord_frameValid (c : Cause) (s : State) : (rejectWord c s).frameValid = s.frameValid := rfl
@[simp] theorem rejectWord_termReq (c : Cause) (s : State) : (rejectWord c s).termReq = s.termReq := rfl
@[simp] theorem rejectWord_encClamped (c : Cause) (s : State) : (rejectWord c s).encClamped = s.encClamped := rfl
@[simp] theorem rejectWord_rateValid (c : Cause) (s : State) : (rejectWord c s).rateValid = s.rateValid := rfl
@[simp] theorem rejectWord_lastCause (c : Cause) (s : State) : (rejectWord c s).lastCause = c := rfl
@[simp] theorem rejectWord_busAddr (c : Cause) (s : State) : (rejectWord c s).busAddr = s.busAddr := rfl
@[simp] theorem rejectWord_event (c : Cause) (s : State) : (rejectWord c s).event = s.event ||| evError := rfl
@[simp] theorem rejectWord_irqEn (c : Cause) (s : State) : (rejectWord c s).irqEn = s.irqEn := rfl
@[simp] theorem rejectWord_cfgLsb (c : Cause) (s : State) : (rejectWord c s).cfgLsb = s.cfgLsb := rfl
@[simp] theorem rejectWord_cfgMsb (c : Cause) (s : State) : (rejectWord c s).cfgMsb = s.cfgMsb := rfl
@[simp] theorem rejectWord_rateCode (c : Cause) (s : State) : (rejectWord c s).rateCode = s.rateCode := rfl
@[simp] theorem rejectWord_ptat (c : Cause) (s : State) : (rejectWord c s).ptat = s.ptat := rfl
@[simp] theorem rejectWord_cp (c : Cause) (s : State) : (rejectWord c s).cp = s.cp := rfl
@[simp] theorem rejectWord_frameCount (c : Cause) (s : State) : (rejectWord c s).frameCount = s.frameCount := rfl
@[simp] theorem rejectWord_ta (c : Cause) (s : State) : (rejectWord c s).ta = s.ta := rfl
@[simp] theorem rejectWord_mem (c : Cause) (s : State) : (rejectWord c s).mem = s.mem := rfl
@[simp] theorem rejectWord_curOp (c : Cause) (s : State) : (rejectWord c s).curOp = s.curOp := rfl
@[simp] theorem rejectWord_seq (c : Cause) (s : State) : (rejectWord c s).seq = s.seq := rfl
@[simp] theorem rejectWord_busClk (c : Cause) (s : State) : (rejectWord c s).busClk = s.busClk := rfl
@[simp] theorem rejectWord_retryCnt (c : Cause) (s : State) : (rejectWord c s).retryCnt = s.retryCnt := rfl
@[simp] theorem rejectWord_porObs (c : Cause) (s : State) : (rejectWord c s).porObs = s.porObs := rfl
@[simp] theorem rejectWord_params (c : Cause) (s : State) : (rejectWord c s).params = s.params := rfl
@[simp] theorem rejectWord_busPort (c : Cause) (s : State) : (rejectWord c s).busPort = s.busPort := rfl
@[simp] theorem rejectWord_trace (c : Cause) (s : State) : (rejectWord c s).trace = s.trace := rfl
@[simp] theorem rejectWord_inputs (c : Cause) (s : State) : (rejectWord c s).inputs = s.inputs := rfl
@[simp] theorem rejectWord_answers (c : Cause) (s : State) : (rejectWord c s).answers = s.answers := rfl
@[simp] theorem rejectWord_reqCount (c : Cause) (s : State) : (rejectWord c s).reqCount = s.reqCount := rfl
@[simp] theorem rejectWord_drawCount (c : Cause) (s : State) : (rejectWord c s).drawCount = s.drawCount := rfl
@[simp] theorem rejectWord_hostData (c : Cause) (s : State) : (rejectWord c s).hostData = s.hostData := rfl
@[simp] theorem rejectWord_cfgShown (c : Cause) (s : State) : (rejectWord c s).cfgShown = s.cfgShown := rfl
@[simp] theorem rejectWord_taShown (c : Cause) (s : State) : (rejectWord c s).taShown = s.taShown := rfl
@[simp] theorem rejectWord_ownCause (c : Cause) (s : State) : (rejectWord c s).ownCause = s.ownCause := rfl

/-! ### warn -/

@[simp] theorem warn_cmd (c : Cause) (s : State) : (warn c s).cmd = s.cmd := rfl
@[simp] theorem warn_busy (c : Cause) (s : State) : (warn c s).busy = s.busy := rfl
@[simp] theorem warn_loopState (c : Cause) (s : State) : (warn c s).loopState = s.loopState := rfl
@[simp] theorem warn_sessionOpen (c : Cause) (s : State) : (warn c s).sessionOpen = s.sessionOpen := rfl
@[simp] theorem warn_eeValid (c : Cause) (s : State) : (warn c s).eeValid = s.eeValid := rfl
@[simp] theorem warn_cfgValid (c : Cause) (s : State) : (warn c s).cfgValid = s.cfgValid := rfl
@[simp] theorem warn_ptatValid (c : Cause) (s : State) : (warn c s).ptatValid = s.ptatValid := rfl
@[simp] theorem warn_cpValid (c : Cause) (s : State) : (warn c s).cpValid = s.cpValid := rfl
@[simp] theorem warn_irValid (c : Cause) (s : State) : (warn c s).irValid = s.irValid := rfl
@[simp] theorem warn_taValid (c : Cause) (s : State) : (warn c s).taValid = s.taValid := rfl
@[simp] theorem warn_frameValid (c : Cause) (s : State) : (warn c s).frameValid = s.frameValid := rfl
@[simp] theorem warn_termReq (c : Cause) (s : State) : (warn c s).termReq = s.termReq := rfl
@[simp] theorem warn_encClamped (c : Cause) (s : State) : (warn c s).encClamped = s.encClamped := rfl
@[simp] theorem warn_rateValid (c : Cause) (s : State) : (warn c s).rateValid = s.rateValid := rfl
@[simp] theorem warn_lastCause (c : Cause) (s : State) : (warn c s).lastCause = c := rfl
@[simp] theorem warn_busAddr (c : Cause) (s : State) : (warn c s).busAddr = s.busAddr := rfl
@[simp] theorem warn_event (c : Cause) (s : State) : (warn c s).event = s.event ||| evWarn := rfl
@[simp] theorem warn_irqEn (c : Cause) (s : State) : (warn c s).irqEn = s.irqEn := rfl
@[simp] theorem warn_cfgLsb (c : Cause) (s : State) : (warn c s).cfgLsb = s.cfgLsb := rfl
@[simp] theorem warn_cfgMsb (c : Cause) (s : State) : (warn c s).cfgMsb = s.cfgMsb := rfl
@[simp] theorem warn_rateCode (c : Cause) (s : State) : (warn c s).rateCode = s.rateCode := rfl
@[simp] theorem warn_ptat (c : Cause) (s : State) : (warn c s).ptat = s.ptat := rfl
@[simp] theorem warn_cp (c : Cause) (s : State) : (warn c s).cp = s.cp := rfl
@[simp] theorem warn_frameCount (c : Cause) (s : State) : (warn c s).frameCount = s.frameCount := rfl
@[simp] theorem warn_ta (c : Cause) (s : State) : (warn c s).ta = s.ta := rfl
@[simp] theorem warn_mem (c : Cause) (s : State) : (warn c s).mem = s.mem := rfl
@[simp] theorem warn_curOp (c : Cause) (s : State) : (warn c s).curOp = s.curOp := rfl
@[simp] theorem warn_seq (c : Cause) (s : State) : (warn c s).seq = s.seq := rfl
@[simp] theorem warn_busClk (c : Cause) (s : State) : (warn c s).busClk = s.busClk := rfl
@[simp] theorem warn_retryCnt (c : Cause) (s : State) : (warn c s).retryCnt = s.retryCnt := rfl
@[simp] theorem warn_porObs (c : Cause) (s : State) : (warn c s).porObs = s.porObs := rfl
@[simp] theorem warn_params (c : Cause) (s : State) : (warn c s).params = s.params := rfl
@[simp] theorem warn_busPort (c : Cause) (s : State) : (warn c s).busPort = s.busPort := rfl
@[simp] theorem warn_trace (c : Cause) (s : State) : (warn c s).trace = s.trace := rfl
@[simp] theorem warn_inputs (c : Cause) (s : State) : (warn c s).inputs = s.inputs := rfl
@[simp] theorem warn_answers (c : Cause) (s : State) : (warn c s).answers = s.answers := rfl
@[simp] theorem warn_reqCount (c : Cause) (s : State) : (warn c s).reqCount = s.reqCount := rfl
@[simp] theorem warn_drawCount (c : Cause) (s : State) : (warn c s).drawCount = s.drawCount := rfl
@[simp] theorem warn_hostData (c : Cause) (s : State) : (warn c s).hostData = s.hostData := rfl
@[simp] theorem warn_cfgShown (c : Cause) (s : State) : (warn c s).cfgShown = s.cfgShown := rfl
@[simp] theorem warn_taShown (c : Cause) (s : State) : (warn c s).taShown = s.taShown := rfl
@[simp] theorem warn_ownCause (c : Cause) (s : State) : (warn c s).ownCause = c := rfl

/-! ### reportPor -/

@[simp] theorem reportPor_cmd (s : State) : (reportPor s).cmd = s.cmd := rfl
@[simp] theorem reportPor_busy (s : State) : (reportPor s).busy = s.busy := rfl
@[simp] theorem reportPor_loopState (s : State) : (reportPor s).loopState = s.loopState := rfl
@[simp] theorem reportPor_sessionOpen (s : State) : (reportPor s).sessionOpen = s.sessionOpen := rfl
@[simp] theorem reportPor_eeValid (s : State) : (reportPor s).eeValid = s.eeValid := rfl
@[simp] theorem reportPor_cfgValid (s : State) : (reportPor s).cfgValid = s.cfgValid := rfl
@[simp] theorem reportPor_ptatValid (s : State) : (reportPor s).ptatValid = s.ptatValid := rfl
@[simp] theorem reportPor_cpValid (s : State) : (reportPor s).cpValid = s.cpValid := rfl
@[simp] theorem reportPor_irValid (s : State) : (reportPor s).irValid = s.irValid := rfl
@[simp] theorem reportPor_taValid (s : State) : (reportPor s).taValid = s.taValid := rfl
@[simp] theorem reportPor_frameValid (s : State) : (reportPor s).frameValid = s.frameValid := rfl
@[simp] theorem reportPor_termReq (s : State) : (reportPor s).termReq = s.termReq := rfl
@[simp] theorem reportPor_encClamped (s : State) : (reportPor s).encClamped = s.encClamped := rfl
@[simp] theorem reportPor_rateValid (s : State) : (reportPor s).rateValid = s.rateValid := rfl
@[simp] theorem reportPor_lastCause (s : State) : (reportPor s).lastCause = .powerOnReset := rfl
@[simp] theorem reportPor_busAddr (s : State) : (reportPor s).busAddr = s.busAddr := rfl
@[simp] theorem reportPor_event (s : State) : (reportPor s).event = s.event ||| evPor := rfl
@[simp] theorem reportPor_irqEn (s : State) : (reportPor s).irqEn = s.irqEn := rfl
@[simp] theorem reportPor_cfgLsb (s : State) : (reportPor s).cfgLsb = s.cfgLsb := rfl
@[simp] theorem reportPor_cfgMsb (s : State) : (reportPor s).cfgMsb = s.cfgMsb := rfl
@[simp] theorem reportPor_rateCode (s : State) : (reportPor s).rateCode = s.rateCode := rfl
@[simp] theorem reportPor_ptat (s : State) : (reportPor s).ptat = s.ptat := rfl
@[simp] theorem reportPor_cp (s : State) : (reportPor s).cp = s.cp := rfl
@[simp] theorem reportPor_frameCount (s : State) : (reportPor s).frameCount = s.frameCount := rfl
@[simp] theorem reportPor_ta (s : State) : (reportPor s).ta = s.ta := rfl
@[simp] theorem reportPor_mem (s : State) : (reportPor s).mem = s.mem := rfl
@[simp] theorem reportPor_curOp (s : State) : (reportPor s).curOp = s.curOp := rfl
@[simp] theorem reportPor_seq (s : State) : (reportPor s).seq = s.seq := rfl
@[simp] theorem reportPor_busClk (s : State) : (reportPor s).busClk = s.busClk := rfl
@[simp] theorem reportPor_retryCnt (s : State) : (reportPor s).retryCnt = s.retryCnt := rfl
@[simp] theorem reportPor_porObs (s : State) : (reportPor s).porObs = s.porObs := rfl
@[simp] theorem reportPor_params (s : State) : (reportPor s).params = s.params := rfl
@[simp] theorem reportPor_busPort (s : State) : (reportPor s).busPort = s.busPort := rfl
@[simp] theorem reportPor_trace (s : State) : (reportPor s).trace = s.trace := rfl
@[simp] theorem reportPor_inputs (s : State) : (reportPor s).inputs = s.inputs := rfl
@[simp] theorem reportPor_answers (s : State) : (reportPor s).answers = s.answers := rfl
@[simp] theorem reportPor_reqCount (s : State) : (reportPor s).reqCount = s.reqCount := rfl
@[simp] theorem reportPor_drawCount (s : State) : (reportPor s).drawCount = s.drawCount := rfl
@[simp] theorem reportPor_hostData (s : State) : (reportPor s).hostData = s.hostData := rfl
@[simp] theorem reportPor_cfgShown (s : State) : (reportPor s).cfgShown = s.cfgShown := rfl
@[simp] theorem reportPor_taShown (s : State) : (reportPor s).taShown = s.taShown := rfl
@[simp] theorem reportPor_ownCause (s : State) : (reportPor s).ownCause = .powerOnReset := rfl

/-! ### accept -/

@[simp] theorem accept_cmd (w : Word) (q : Seq) (s : State) : (accept w q s).cmd = w := rfl
@[simp] theorem accept_busy (w : Word) (q : Seq) (s : State) : (accept w q s).busy = true := rfl
@[simp] theorem accept_loopState (w : Word) (q : Seq) (s : State) : (accept w q s).loopState = s.loopState := rfl
@[simp] theorem accept_sessionOpen (w : Word) (q : Seq) (s : State) : (accept w q s).sessionOpen = s.sessionOpen := rfl
@[simp] theorem accept_eeValid (w : Word) (q : Seq) (s : State) : (accept w q s).eeValid = s.eeValid := rfl
@[simp] theorem accept_cfgValid (w : Word) (q : Seq) (s : State) : (accept w q s).cfgValid = s.cfgValid := rfl
@[simp] theorem accept_ptatValid (w : Word) (q : Seq) (s : State) : (accept w q s).ptatValid = s.ptatValid := rfl
@[simp] theorem accept_cpValid (w : Word) (q : Seq) (s : State) : (accept w q s).cpValid = s.cpValid := rfl
@[simp] theorem accept_irValid (w : Word) (q : Seq) (s : State) : (accept w q s).irValid = s.irValid := rfl
@[simp] theorem accept_taValid (w : Word) (q : Seq) (s : State) : (accept w q s).taValid = s.taValid := rfl
@[simp] theorem accept_frameValid (w : Word) (q : Seq) (s : State) : (accept w q s).frameValid = s.frameValid := rfl
@[simp] theorem accept_termReq (w : Word) (q : Seq) (s : State) : (accept w q s).termReq = s.termReq := rfl
@[simp] theorem accept_encClamped (w : Word) (q : Seq) (s : State) : (accept w q s).encClamped = s.encClamped := rfl
@[simp] theorem accept_rateValid (w : Word) (q : Seq) (s : State) : (accept w q s).rateValid = s.rateValid := rfl
@[simp] theorem accept_lastCause (w : Word) (q : Seq) (s : State) : (accept w q s).lastCause = .none := rfl
@[simp] theorem accept_busAddr (w : Word) (q : Seq) (s : State) : (accept w q s).busAddr = s.busAddr := rfl
@[simp] theorem accept_event (w : Word) (q : Seq) (s : State) : (accept w q s).event = s.event := rfl
@[simp] theorem accept_irqEn (w : Word) (q : Seq) (s : State) : (accept w q s).irqEn = s.irqEn := rfl
@[simp] theorem accept_cfgLsb (w : Word) (q : Seq) (s : State) : (accept w q s).cfgLsb = s.cfgLsb := rfl
@[simp] theorem accept_cfgMsb (w : Word) (q : Seq) (s : State) : (accept w q s).cfgMsb = s.cfgMsb := rfl
@[simp] theorem accept_rateCode (w : Word) (q : Seq) (s : State) : (accept w q s).rateCode = s.rateCode := rfl
@[simp] theorem accept_ptat (w : Word) (q : Seq) (s : State) : (accept w q s).ptat = s.ptat := rfl
@[simp] theorem accept_cp (w : Word) (q : Seq) (s : State) : (accept w q s).cp = s.cp := rfl
@[simp] theorem accept_frameCount (w : Word) (q : Seq) (s : State) : (accept w q s).frameCount = s.frameCount := rfl
@[simp] theorem accept_ta (w : Word) (q : Seq) (s : State) : (accept w q s).ta = s.ta := rfl
@[simp] theorem accept_mem (w : Word) (q : Seq) (s : State) : (accept w q s).mem = s.mem := rfl
@[simp] theorem accept_curOp (w : Word) (q : Seq) (s : State) : (accept w q s).curOp = some (opField w) := rfl
@[simp] theorem accept_seq (w : Word) (q : Seq) (s : State) : (accept w q s).seq = q := rfl
@[simp] theorem accept_busClk (w : Word) (q : Seq) (s : State) : (accept w q s).busClk = s.busClk := rfl
@[simp] theorem accept_retryCnt (w : Word) (q : Seq) (s : State) : (accept w q s).retryCnt = s.retryCnt := rfl
@[simp] theorem accept_porObs (w : Word) (q : Seq) (s : State) : (accept w q s).porObs = s.porObs := rfl
@[simp] theorem accept_params (w : Word) (q : Seq) (s : State) : (accept w q s).params = s.params := rfl
@[simp] theorem accept_busPort (w : Word) (q : Seq) (s : State) : (accept w q s).busPort = s.busPort := rfl
@[simp] theorem accept_trace (w : Word) (q : Seq) (s : State) : (accept w q s).trace = s.trace := rfl
@[simp] theorem accept_inputs (w : Word) (q : Seq) (s : State) : (accept w q s).inputs = s.inputs := rfl
@[simp] theorem accept_answers (w : Word) (q : Seq) (s : State) : (accept w q s).answers = s.answers := rfl
@[simp] theorem accept_reqCount (w : Word) (q : Seq) (s : State) : (accept w q s).reqCount = s.reqCount := rfl
@[simp] theorem accept_drawCount (w : Word) (q : Seq) (s : State) : (accept w q s).drawCount = s.drawCount := rfl
@[simp] theorem accept_hostData (w : Word) (q : Seq) (s : State) : (accept w q s).hostData = s.hostData := rfl
@[simp] theorem accept_cfgShown (w : Word) (q : Seq) (s : State) : (accept w q s).cfgShown = s.cfgShown := rfl
@[simp] theorem accept_taShown (w : Word) (q : Seq) (s : State) : (accept w q s).taShown = s.taShown := rfl
@[simp] theorem accept_ownCause (w : Word) (q : Seq) (s : State) : (accept w q s).ownCause = .none := rfl

/-! ### commitFrame -/

@[simp] theorem commitFrame_cmd (l : List Fp) (s : State) : (commitFrame l s).cmd = s.cmd := rfl
@[simp] theorem commitFrame_busy (l : List Fp) (s : State) : (commitFrame l s).busy = s.busy := rfl
@[simp] theorem commitFrame_loopState (l : List Fp) (s : State) : (commitFrame l s).loopState = s.loopState := rfl
@[simp] theorem commitFrame_sessionOpen (l : List Fp) (s : State) : (commitFrame l s).sessionOpen = s.sessionOpen := rfl
@[simp] theorem commitFrame_eeValid (l : List Fp) (s : State) : (commitFrame l s).eeValid = s.eeValid := rfl
@[simp] theorem commitFrame_cfgValid (l : List Fp) (s : State) : (commitFrame l s).cfgValid = s.cfgValid := rfl
@[simp] theorem commitFrame_ptatValid (l : List Fp) (s : State) : (commitFrame l s).ptatValid = s.ptatValid := rfl
@[simp] theorem commitFrame_cpValid (l : List Fp) (s : State) : (commitFrame l s).cpValid = s.cpValid := rfl
@[simp] theorem commitFrame_irValid (l : List Fp) (s : State) : (commitFrame l s).irValid = s.irValid := rfl
@[simp] theorem commitFrame_taValid (l : List Fp) (s : State) : (commitFrame l s).taValid = s.taValid := rfl
@[simp] theorem commitFrame_frameValid (l : List Fp) (s : State) : (commitFrame l s).frameValid = true := rfl
@[simp] theorem commitFrame_termReq (l : List Fp) (s : State) : (commitFrame l s).termReq = s.termReq := rfl
@[simp] theorem commitFrame_encClamped (l : List Fp) (s : State) : (commitFrame l s).encClamped = frameClamped s.params.fpFormat l := rfl
@[simp] theorem commitFrame_rateValid (l : List Fp) (s : State) : (commitFrame l s).rateValid = s.rateValid := rfl
@[simp] theorem commitFrame_lastCause (l : List Fp) (s : State) : (commitFrame l s).lastCause = s.lastCause := rfl
@[simp] theorem commitFrame_busAddr (l : List Fp) (s : State) : (commitFrame l s).busAddr = s.busAddr := rfl
@[simp] theorem commitFrame_event (l : List Fp) (s : State) : (commitFrame l s).event = s.event := rfl
@[simp] theorem commitFrame_irqEn (l : List Fp) (s : State) : (commitFrame l s).irqEn = s.irqEn := rfl
@[simp] theorem commitFrame_cfgLsb (l : List Fp) (s : State) : (commitFrame l s).cfgLsb = s.cfgLsb := rfl
@[simp] theorem commitFrame_cfgMsb (l : List Fp) (s : State) : (commitFrame l s).cfgMsb = s.cfgMsb := rfl
@[simp] theorem commitFrame_rateCode (l : List Fp) (s : State) : (commitFrame l s).rateCode = s.rateCode := rfl
@[simp] theorem commitFrame_ptat (l : List Fp) (s : State) : (commitFrame l s).ptat = s.ptat := rfl
@[simp] theorem commitFrame_cp (l : List Fp) (s : State) : (commitFrame l s).cp = s.cp := rfl
@[simp] theorem commitFrame_frameCount (l : List Fp) (s : State) : (commitFrame l s).frameCount = s.frameCount + 1#32 := rfl
@[simp] theorem commitFrame_ta (l : List Fp) (s : State) : (commitFrame l s).ta = s.ta := rfl
@[simp] theorem commitFrame_mem (l : List Fp) (s : State) : (commitFrame l s).mem = (s.mem.writeBlock tempBase (l.flatMap fpBytes)).writeBlock encBase ((frameEncs s.params.fpFormat l).flatMap halfBytes) := rfl
@[simp] theorem commitFrame_curOp (l : List Fp) (s : State) : (commitFrame l s).curOp = s.curOp := rfl
@[simp] theorem commitFrame_seq (l : List Fp) (s : State) : (commitFrame l s).seq = s.seq := rfl
@[simp] theorem commitFrame_busClk (l : List Fp) (s : State) : (commitFrame l s).busClk = s.busClk := rfl
@[simp] theorem commitFrame_retryCnt (l : List Fp) (s : State) : (commitFrame l s).retryCnt = s.retryCnt := rfl
@[simp] theorem commitFrame_porObs (l : List Fp) (s : State) : (commitFrame l s).porObs = s.porObs := rfl
@[simp] theorem commitFrame_params (l : List Fp) (s : State) : (commitFrame l s).params = s.params := rfl
@[simp] theorem commitFrame_busPort (l : List Fp) (s : State) : (commitFrame l s).busPort = s.busPort := rfl
@[simp] theorem commitFrame_trace (l : List Fp) (s : State) : (commitFrame l s).trace = s.trace := rfl
@[simp] theorem commitFrame_inputs (l : List Fp) (s : State) : (commitFrame l s).inputs = s.inputs := rfl
@[simp] theorem commitFrame_answers (l : List Fp) (s : State) : (commitFrame l s).answers = s.answers := rfl
@[simp] theorem commitFrame_reqCount (l : List Fp) (s : State) : (commitFrame l s).reqCount = s.reqCount := rfl
@[simp] theorem commitFrame_drawCount (l : List Fp) (s : State) : (commitFrame l s).drawCount = s.drawCount := rfl
@[simp] theorem commitFrame_hostData (l : List Fp) (s : State) : (commitFrame l s).hostData = s.hostData := rfl
@[simp] theorem commitFrame_cfgShown (l : List Fp) (s : State) : (commitFrame l s).cfgShown = s.cfgShown := rfl
@[simp] theorem commitFrame_taShown (l : List Fp) (s : State) : (commitFrame l s).taShown = s.taShown := rfl
@[simp] theorem commitFrame_ownCause (l : List Fp) (s : State) : (commitFrame l s).ownCause = s.ownCause := rfl

/-! ### emitFrame -/

@[simp] theorem emitFrame_cmd (s : State) : (emitFrame s).cmd = s.cmd := rfl
@[simp] theorem emitFrame_busy (s : State) : (emitFrame s).busy = s.busy := rfl
@[simp] theorem emitFrame_loopState (s : State) : (emitFrame s).loopState = s.loopState := rfl
@[simp] theorem emitFrame_sessionOpen (s : State) : (emitFrame s).sessionOpen = s.sessionOpen := rfl
@[simp] theorem emitFrame_eeValid (s : State) : (emitFrame s).eeValid = s.eeValid := rfl
@[simp] theorem emitFrame_cfgValid (s : State) : (emitFrame s).cfgValid = s.cfgValid := rfl
@[simp] theorem emitFrame_ptatValid (s : State) : (emitFrame s).ptatValid = s.ptatValid := rfl
@[simp] theorem emitFrame_cpValid (s : State) : (emitFrame s).cpValid = s.cpValid := rfl
@[simp] theorem emitFrame_irValid (s : State) : (emitFrame s).irValid = s.irValid := rfl
@[simp] theorem emitFrame_taValid (s : State) : (emitFrame s).taValid = s.taValid := rfl
@[simp] theorem emitFrame_frameValid (s : State) : (emitFrame s).frameValid = s.frameValid := rfl
@[simp] theorem emitFrame_termReq (s : State) : (emitFrame s).termReq = s.termReq := rfl
@[simp] theorem emitFrame_encClamped (s : State) : (emitFrame s).encClamped = s.encClamped := rfl
@[simp] theorem emitFrame_rateValid (s : State) : (emitFrame s).rateValid = s.rateValid := rfl
@[simp] theorem emitFrame_lastCause (s : State) : (emitFrame s).lastCause = s.lastCause := rfl
@[simp] theorem emitFrame_busAddr (s : State) : (emitFrame s).busAddr = s.busAddr := rfl
@[simp] theorem emitFrame_event (s : State) : (emitFrame s).event = s.event ||| (if s.encClamped then evFrame ||| evWarn else evFrame) := rfl
@[simp] theorem emitFrame_irqEn (s : State) : (emitFrame s).irqEn = s.irqEn := rfl
@[simp] theorem emitFrame_cfgLsb (s : State) : (emitFrame s).cfgLsb = s.cfgLsb := rfl
@[simp] theorem emitFrame_cfgMsb (s : State) : (emitFrame s).cfgMsb = s.cfgMsb := rfl
@[simp] theorem emitFrame_rateCode (s : State) : (emitFrame s).rateCode = s.rateCode := rfl
@[simp] theorem emitFrame_ptat (s : State) : (emitFrame s).ptat = s.ptat := rfl
@[simp] theorem emitFrame_cp (s : State) : (emitFrame s).cp = s.cp := rfl
@[simp] theorem emitFrame_frameCount (s : State) : (emitFrame s).frameCount = s.frameCount := rfl
@[simp] theorem emitFrame_ta (s : State) : (emitFrame s).ta = s.ta := rfl
@[simp] theorem emitFrame_mem (s : State) : (emitFrame s).mem = s.mem := rfl
@[simp] theorem emitFrame_curOp (s : State) : (emitFrame s).curOp = s.curOp := rfl
@[simp] theorem emitFrame_seq (s : State) : (emitFrame s).seq = s.seq := rfl
@[simp] theorem emitFrame_busClk (s : State) : (emitFrame s).busClk = s.busClk := rfl
@[simp] theorem emitFrame_retryCnt (s : State) : (emitFrame s).retryCnt = s.retryCnt := rfl
@[simp] theorem emitFrame_porObs (s : State) : (emitFrame s).porObs = s.porObs := rfl
@[simp] theorem emitFrame_params (s : State) : (emitFrame s).params = s.params := rfl
@[simp] theorem emitFrame_busPort (s : State) : (emitFrame s).busPort = s.busPort := rfl
@[simp] theorem emitFrame_trace (s : State) : (emitFrame s).trace = .emit s.frameBytes :: s.trace := rfl
@[simp] theorem emitFrame_inputs (s : State) : (emitFrame s).inputs = s.inputs := rfl
@[simp] theorem emitFrame_answers (s : State) : (emitFrame s).answers = s.answers := rfl
@[simp] theorem emitFrame_reqCount (s : State) : (emitFrame s).reqCount = s.reqCount := rfl
@[simp] theorem emitFrame_drawCount (s : State) : (emitFrame s).drawCount = s.drawCount := rfl
@[simp] theorem emitFrame_hostData (s : State) : (emitFrame s).hostData = s.hostData := rfl
@[simp] theorem emitFrame_cfgShown (s : State) : (emitFrame s).cfgShown = s.cfgShown := rfl
@[simp] theorem emitFrame_taShown (s : State) : (emitFrame s).taShown = s.taShown := rfl
@[simp] theorem emitFrame_ownCause (s : State) : (emitFrame s).ownCause = s.ownCause := rfl

/-! ### hostRead -/

@[simp] theorem hostRead_cmd (a : BitVec 12) (s : State) : (hostRead a s).cmd = s.cmd := rfl
@[simp] theorem hostRead_busy (a : BitVec 12) (s : State) : (hostRead a s).busy = s.busy := rfl
@[simp] theorem hostRead_loopState (a : BitVec 12) (s : State) : (hostRead a s).loopState = s.loopState := rfl
@[simp] theorem hostRead_sessionOpen (a : BitVec 12) (s : State) : (hostRead a s).sessionOpen = s.sessionOpen := rfl
@[simp] theorem hostRead_eeValid (a : BitVec 12) (s : State) : (hostRead a s).eeValid = s.eeValid := rfl
@[simp] theorem hostRead_cfgValid (a : BitVec 12) (s : State) : (hostRead a s).cfgValid = s.cfgValid := rfl
@[simp] theorem hostRead_ptatValid (a : BitVec 12) (s : State) : (hostRead a s).ptatValid = s.ptatValid := rfl
@[simp] theorem hostRead_cpValid (a : BitVec 12) (s : State) : (hostRead a s).cpValid = s.cpValid := rfl
@[simp] theorem hostRead_irValid (a : BitVec 12) (s : State) : (hostRead a s).irValid = s.irValid := rfl
@[simp] theorem hostRead_taValid (a : BitVec 12) (s : State) : (hostRead a s).taValid = s.taValid := rfl
@[simp] theorem hostRead_frameValid (a : BitVec 12) (s : State) : (hostRead a s).frameValid = s.frameValid := rfl
@[simp] theorem hostRead_termReq (a : BitVec 12) (s : State) : (hostRead a s).termReq = s.termReq := rfl
@[simp] theorem hostRead_encClamped (a : BitVec 12) (s : State) : (hostRead a s).encClamped = s.encClamped := rfl
@[simp] theorem hostRead_rateValid (a : BitVec 12) (s : State) : (hostRead a s).rateValid = s.rateValid := rfl
@[simp] theorem hostRead_lastCause (a : BitVec 12) (s : State) : (hostRead a s).lastCause = s.lastCause := rfl
@[simp] theorem hostRead_busAddr (a : BitVec 12) (s : State) : (hostRead a s).busAddr = s.busAddr := rfl
@[simp] theorem hostRead_event (a : BitVec 12) (s : State) : (hostRead a s).event = s.event := rfl
@[simp] theorem hostRead_irqEn (a : BitVec 12) (s : State) : (hostRead a s).irqEn = s.irqEn := rfl
@[simp] theorem hostRead_cfgLsb (a : BitVec 12) (s : State) : (hostRead a s).cfgLsb = s.cfgLsb := rfl
@[simp] theorem hostRead_cfgMsb (a : BitVec 12) (s : State) : (hostRead a s).cfgMsb = s.cfgMsb := rfl
@[simp] theorem hostRead_rateCode (a : BitVec 12) (s : State) : (hostRead a s).rateCode = s.rateCode := rfl
@[simp] theorem hostRead_ptat (a : BitVec 12) (s : State) : (hostRead a s).ptat = s.ptat := rfl
@[simp] theorem hostRead_cp (a : BitVec 12) (s : State) : (hostRead a s).cp = s.cp := rfl
@[simp] theorem hostRead_frameCount (a : BitVec 12) (s : State) : (hostRead a s).frameCount = s.frameCount := rfl
@[simp] theorem hostRead_ta (a : BitVec 12) (s : State) : (hostRead a s).ta = s.ta := rfl
@[simp] theorem hostRead_mem (a : BitVec 12) (s : State) : (hostRead a s).mem = s.mem := rfl
@[simp] theorem hostRead_curOp (a : BitVec 12) (s : State) : (hostRead a s).curOp = s.curOp := rfl
@[simp] theorem hostRead_seq (a : BitVec 12) (s : State) : (hostRead a s).seq = s.seq := rfl
@[simp] theorem hostRead_busClk (a : BitVec 12) (s : State) : (hostRead a s).busClk = s.busClk := rfl
@[simp] theorem hostRead_retryCnt (a : BitVec 12) (s : State) : (hostRead a s).retryCnt = s.retryCnt := rfl
@[simp] theorem hostRead_porObs (a : BitVec 12) (s : State) : (hostRead a s).porObs = s.porObs := rfl
@[simp] theorem hostRead_params (a : BitVec 12) (s : State) : (hostRead a s).params = s.params := rfl
@[simp] theorem hostRead_busPort (a : BitVec 12) (s : State) : (hostRead a s).busPort = s.busPort := rfl
@[simp] theorem hostRead_trace (a : BitVec 12) (s : State) : (hostRead a s).trace = s.trace := rfl
@[simp] theorem hostRead_inputs (a : BitVec 12) (s : State) : (hostRead a s).inputs = s.inputs := rfl
@[simp] theorem hostRead_answers (a : BitVec 12) (s : State) : (hostRead a s).answers = s.answers := rfl
@[simp] theorem hostRead_reqCount (a : BitVec 12) (s : State) : (hostRead a s).reqCount = s.reqCount := rfl
@[simp] theorem hostRead_drawCount (a : BitVec 12) (s : State) : (hostRead a s).drawCount = s.drawCount + 1 := rfl
@[simp] theorem hostRead_hostData (a : BitVec 12) (s : State) : (hostRead a s).hostData = s.windowRead a.toNat (Config.drawWord s.drawCount) := rfl
@[simp] theorem hostRead_cfgShown (a : BitVec 12) (s : State) : (hostRead a s).cfgShown = s.cfgShown := rfl
@[simp] theorem hostRead_taShown (a : BitVec 12) (s : State) : (hostRead a s).taShown = s.taShown := rfl
@[simp] theorem hostRead_ownCause (a : BitVec 12) (s : State) : (hostRead a s).ownCause = s.ownCause := rfl

/-! ### setAddr -/

@[simp] theorem setAddr_cmd (s : State) (o : BusOp) : (s.setAddr o).cmd = s.cmd := rfl
@[simp] theorem setAddr_busy (s : State) (o : BusOp) : (s.setAddr o).busy = s.busy := rfl
@[simp] theorem setAddr_loopState (s : State) (o : BusOp) : (s.setAddr o).loopState = s.loopState := rfl
@[simp] theorem setAddr_sessionOpen (s : State) (o : BusOp) : (s.setAddr o).sessionOpen = s.sessionOpen := rfl
@[simp] theorem setAddr_eeValid (s : State) (o : BusOp) : (s.setAddr o).eeValid = s.eeValid := rfl
@[simp] theorem setAddr_cfgValid (s : State) (o : BusOp) : (s.setAddr o).cfgValid = s.cfgValid := rfl
@[simp] theorem setAddr_ptatValid (s : State) (o : BusOp) : (s.setAddr o).ptatValid = s.ptatValid := rfl
@[simp] theorem setAddr_cpValid (s : State) (o : BusOp) : (s.setAddr o).cpValid = s.cpValid := rfl
@[simp] theorem setAddr_irValid (s : State) (o : BusOp) : (s.setAddr o).irValid = s.irValid := rfl
@[simp] theorem setAddr_taValid (s : State) (o : BusOp) : (s.setAddr o).taValid = s.taValid := rfl
@[simp] theorem setAddr_frameValid (s : State) (o : BusOp) : (s.setAddr o).frameValid = s.frameValid := rfl
@[simp] theorem setAddr_termReq (s : State) (o : BusOp) : (s.setAddr o).termReq = s.termReq := rfl
@[simp] theorem setAddr_encClamped (s : State) (o : BusOp) : (s.setAddr o).encClamped = s.encClamped := rfl
@[simp] theorem setAddr_rateValid (s : State) (o : BusOp) : (s.setAddr o).rateValid = s.rateValid := rfl
@[simp] theorem setAddr_lastCause (s : State) (o : BusOp) : (s.setAddr o).lastCause = s.lastCause := rfl
@[simp] theorem setAddr_busAddr (s : State) (o : BusOp) : (s.setAddr o).busAddr = s.busAddr := rfl
@[simp] theorem setAddr_event (s : State) (o : BusOp) : (s.setAddr o).event = s.event := rfl
@[simp] theorem setAddr_irqEn (s : State) (o : BusOp) : (s.setAddr o).irqEn = s.irqEn := rfl
@[simp] theorem setAddr_cfgLsb (s : State) (o : BusOp) : (s.setAddr o).cfgLsb = s.cfgLsb := rfl
@[simp] theorem setAddr_cfgMsb (s : State) (o : BusOp) : (s.setAddr o).cfgMsb = s.cfgMsb := rfl
@[simp] theorem setAddr_rateCode (s : State) (o : BusOp) : (s.setAddr o).rateCode = s.rateCode := rfl
@[simp] theorem setAddr_ptat (s : State) (o : BusOp) : (s.setAddr o).ptat = s.ptat := rfl
@[simp] theorem setAddr_cp (s : State) (o : BusOp) : (s.setAddr o).cp = s.cp := rfl
@[simp] theorem setAddr_frameCount (s : State) (o : BusOp) : (s.setAddr o).frameCount = s.frameCount := rfl
@[simp] theorem setAddr_ta (s : State) (o : BusOp) : (s.setAddr o).ta = s.ta := rfl
@[simp] theorem setAddr_mem (s : State) (o : BusOp) : (s.setAddr o).mem = s.mem := rfl
@[simp] theorem setAddr_curOp (s : State) (o : BusOp) : (s.setAddr o).curOp = s.curOp := rfl
@[simp] theorem setAddr_seq (s : State) (o : BusOp) : (s.setAddr o).seq = s.seq := rfl
@[simp] theorem setAddr_busClk (s : State) (o : BusOp) : (s.setAddr o).busClk = s.busClk := rfl
@[simp] theorem setAddr_retryCnt (s : State) (o : BusOp) : (s.setAddr o).retryCnt = s.retryCnt := rfl
@[simp] theorem setAddr_porObs (s : State) (o : BusOp) : (s.setAddr o).porObs = s.porObs := rfl
@[simp] theorem setAddr_params (s : State) (o : BusOp) : (s.setAddr o).params = s.params := rfl
@[simp] theorem setAddr_busPort (s : State) (o : BusOp) : (s.setAddr o).busPort = s.busPort := rfl
@[simp] theorem setAddr_trace (s : State) (o : BusOp) : (s.setAddr o).trace = .busSetAddr o.target :: s.trace := rfl
@[simp] theorem setAddr_inputs (s : State) (o : BusOp) : (s.setAddr o).inputs = s.inputs := rfl
@[simp] theorem setAddr_answers (s : State) (o : BusOp) : (s.setAddr o).answers = s.answers := rfl
@[simp] theorem setAddr_reqCount (s : State) (o : BusOp) : (s.setAddr o).reqCount = s.reqCount := rfl
@[simp] theorem setAddr_drawCount (s : State) (o : BusOp) : (s.setAddr o).drawCount = s.drawCount := rfl
@[simp] theorem setAddr_hostData (s : State) (o : BusOp) : (s.setAddr o).hostData = s.hostData := rfl
@[simp] theorem setAddr_cfgShown (s : State) (o : BusOp) : (s.setAddr o).cfgShown = s.cfgShown := rfl
@[simp] theorem setAddr_taShown (s : State) (o : BusOp) : (s.setAddr o).taShown = s.taShown := rfl
@[simp] theorem setAddr_ownCause (s : State) (o : BusOp) : (s.setAddr o).ownCause = s.ownCause := rfl

/-! ### emission -/

@[simp] theorem emission_cmd (s : State) : (emission s).cmd = s.cmd := rfl
@[simp] theorem emission_busy (s : State) : (emission s).busy = s.busy := rfl
@[simp] theorem emission_loopState (s : State) : (emission s).loopState = s.loopState := rfl
@[simp] theorem emission_sessionOpen (s : State) : (emission s).sessionOpen = s.sessionOpen := rfl
@[simp] theorem emission_eeValid (s : State) : (emission s).eeValid = s.eeValid := rfl
@[simp] theorem emission_cfgValid (s : State) : (emission s).cfgValid = s.cfgValid := rfl
@[simp] theorem emission_ptatValid (s : State) : (emission s).ptatValid = s.ptatValid := rfl
@[simp] theorem emission_cpValid (s : State) : (emission s).cpValid = s.cpValid := rfl
@[simp] theorem emission_irValid (s : State) : (emission s).irValid = s.irValid := rfl
@[simp] theorem emission_taValid (s : State) : (emission s).taValid = s.taValid := rfl
@[simp] theorem emission_frameValid (s : State) : (emission s).frameValid = true := rfl
@[simp] theorem emission_termReq (s : State) : (emission s).termReq = s.termReq := rfl
@[simp] theorem emission_encClamped (s : State) : (emission s).encClamped = frameClamped s.params.fpFormat s.frame := rfl
@[simp] theorem emission_rateValid (s : State) : (emission s).rateValid = s.rateValid := rfl
@[simp] theorem emission_lastCause (s : State) : (emission s).lastCause = s.lastCause := rfl
@[simp] theorem emission_busAddr (s : State) : (emission s).busAddr = s.busAddr := rfl
@[simp] theorem emission_event (s : State) : (emission s).event = s.event |||
    (if frameClamped s.params.fpFormat s.frame then evFrame ||| evWarn else evFrame) := rfl
@[simp] theorem emission_irqEn (s : State) : (emission s).irqEn = s.irqEn := rfl
@[simp] theorem emission_cfgLsb (s : State) : (emission s).cfgLsb = s.cfgLsb := rfl
@[simp] theorem emission_cfgMsb (s : State) : (emission s).cfgMsb = s.cfgMsb := rfl
@[simp] theorem emission_rateCode (s : State) : (emission s).rateCode = s.rateCode := rfl
@[simp] theorem emission_ptat (s : State) : (emission s).ptat = s.ptat := rfl
@[simp] theorem emission_cp (s : State) : (emission s).cp = s.cp := rfl
@[simp] theorem emission_frameCount (s : State) : (emission s).frameCount = s.frameCount + 1#32 := rfl
@[simp] theorem emission_ta (s : State) : (emission s).ta = s.ta := rfl
@[simp] theorem emission_mem (s : State) : (emission s).mem = (commitFrame s.frame s).mem := rfl
@[simp] theorem emission_curOp (s : State) : (emission s).curOp = s.curOp := rfl
@[simp] theorem emission_seq (s : State) : (emission s).seq = s.seq := rfl
@[simp] theorem emission_busClk (s : State) : (emission s).busClk = s.busClk := rfl
@[simp] theorem emission_retryCnt (s : State) : (emission s).retryCnt = s.retryCnt := rfl
@[simp] theorem emission_porObs (s : State) : (emission s).porObs = s.porObs := rfl
@[simp] theorem emission_params (s : State) : (emission s).params = s.params := rfl
@[simp] theorem emission_busPort (s : State) : (emission s).busPort = s.busPort := rfl
@[simp] theorem emission_trace (s : State) : (emission s).trace = .emit (commitFrame s.frame s).frameBytes :: s.trace := rfl
@[simp] theorem emission_inputs (s : State) : (emission s).inputs = s.inputs := rfl
@[simp] theorem emission_answers (s : State) : (emission s).answers = s.answers := rfl
@[simp] theorem emission_reqCount (s : State) : (emission s).reqCount = s.reqCount := rfl
@[simp] theorem emission_drawCount (s : State) : (emission s).drawCount = s.drawCount := rfl
@[simp] theorem emission_hostData (s : State) : (emission s).hostData = s.hostData := rfl
@[simp] theorem emission_cfgShown (s : State) : (emission s).cfgShown = s.cfgShown := rfl
@[simp] theorem emission_taShown (s : State) : (emission s).taShown = s.taShown := rfl
@[simp] theorem emission_ownCause (s : State) : (emission s).ownCause = s.ownCause := rfl

end Sys2Proof.Machine
end

