-- ==== Sys2Proof/Laws/Frame.lean ====
section
/-! SUPPORT. The data commit of an emission, said once: what TEMP, OUT_ENC and every other byte read after it, and that
the emitted bytes are those of OUT_ENC. -/

namespace Sys2Proof.Machine

/-! ### Elements laid out as bytes -/

/-- Element lists of one width laid out as bytes: the length. -/
theorem length_flatMap_const {α : Type} {w : Nat} {enc : α → List Byte} (h : ∀ x, (enc x).length = w) (l : List α) :
    (l.flatMap enc).length = w * l.length := by
  induction l with
  | nil => rfl
  | cons a t ih => rw [List.flatMap_cons, List.length_append, h, ih, List.length_cons, Nat.mul_succ, Nat.add_comm]

/-- Element lists of one width laid out as bytes: byte `j` of element `k`. -/
theorem getD_flatMap_const {α : Type} {w : Nat} {enc : α → List Byte} (h : ∀ x, (enc x).length = w) (l : List α)
    (k j : Nat) (hk : k < l.length) (hj : j < w) : (l.flatMap enc).getD (w * k + j) 0#8 = (enc l[k]).getD j 0#8 := by
  induction l generalizing k with
  | nil => simp at hk
  | cons a t ih =>
    rw [List.flatMap_cons]
    cases k with
    | zero => rw [List.getD_append _ _ _ _ (by rw [h]; omega)]; simp
    | succ k =>
      have e : w * (k + 1) + j = w + (w * k + j) := by rw [Nat.mul_succ]; omega
      rw [e, List.getD_append_right _ _ _ _ (by rw [h]; omega), h, Nat.add_sub_cancel_left, ih k (by simpa using hk)]
      simp

@[simp] theorem halfBytes_length (h : Half) : (halfBytes h).length = 2 := rfl
@[simp] theorem fpBytes_length (x : Fp) : (fpBytes x).length = 8 := rfl

/-- A 16-bit element is its two bytes, high byte first. -/
theorem half_of_bytes (h : Half) : h.extractLsb' 8 8 ++ h.extractLsb' 0 8 = h := by
  apply BitVec.eq_of_getLsbD_eq
  intro i hi
  simp only [BitVec.getLsbD_append, BitVec.getLsbD_extractLsb']
  by_cases h1 : i < 8
  · simp [h1]
  · simp [h1, show i - 8 < 8 by omega, show 8 + (i - 8) = i by omega]

/-- A 64-bit element is its eight bytes, high byte first. -/
theorem fp_of_bytes (x : Fp) :
    (((fpBytes x).getD 7 0#8 ++ (fpBytes x).getD 6 0#8 ++ (fpBytes x).getD 5 0#8 ++ (fpBytes x).getD 4 0#8 : Word) ++
      ((fpBytes x).getD 3 0#8 ++ (fpBytes x).getD 2 0#8 ++ (fpBytes x).getD 1 0#8 ++ (fpBytes x).getD 0 0#8 : Word) :
      BitVec 64) = x := by
  have e : ∀ w : Word, (w.extractLsb' 24 8 ++ w.extractLsb' 16 8 ++ w.extractLsb' 8 8 ++ w.extractLsb' 0 8 : Word) = w := by
    intro w
    apply BitVec.eq_of_getLsbD_eq
    intro i hi
    simp only [BitVec.getLsbD_append, BitVec.getLsbD_extractLsb']
    by_cases h1 : i < 8
    · simp [h1]
    · by_cases h2 : i < 16
      · simp [h1, show i - 8 < 8 by omega, show 8 + (i - 8) = i by omega]
      · by_cases h3 : i < 24
        · simp [h1, show ¬ i - 8 < 8 by omega, show i - 8 - 8 < 8 by omega, show 16 + (i - 8 - 8) = i by omega]
        · simp [h1, show ¬ i - 8 < 8 by omega, show ¬ i - 8 - 8 < 8 by omega, show i - 8 - 8 - 8 < 8 by omega,
            show 24 + (i - 8 - 8 - 8) = i by omega]
  have h : (x.extractLsb' 32 32 ++ x.extractLsb' 0 32 : BitVec 64) = x := by
    apply BitVec.eq_of_getLsbD_eq
    intro i hi
    simp only [BitVec.getLsbD_append, BitVec.getLsbD_extractLsb']
    by_cases h1 : i < 32
    · simp [h1]
    · simp [h1, show i - 32 < 32 by omega, show 32 + (i - 32) = i by omega]
  refine Eq.trans ?_ h
  exact congrArg₂ (· ++ ·) (e _) (e _)

/-! ### The commit -/

variable {temps : List Fp} {s : State}

/-- Every byte after the commit of a frame of 64 temperatures. -/
theorem read_commitFrame (h : temps.length = 64) (a : Nat) :
    (commitFrame temps s).mem.read a =
      if 0x280 ≤ a ∧ a < 0x300 then ((frameEncs s.params.fpFormat temps).flatMap halfBytes).getD (a - 0x280) 0#8
      else if 0x400 ≤ a ∧ a < 0x600 then (temps.flatMap fpBytes).getD (a - 0x400) 0#8
      else s.mem.read a := by
  have h1 : (temps.flatMap fpBytes).length = 512 := by rw [length_flatMap_const fpBytes_length, h]
  have h2 : ((frameEncs s.params.fpFormat temps).flatMap halfBytes).length = 128 := by
    rw [length_flatMap_const halfBytes_length, frameEncs, List.length_map, h]
  rw [commitFrame_mem, Memory.read_writeBlock, Memory.read_writeBlock, h1, h2]
  rfl

/-- TEMP after the commit. -/
theorem temp_commitFrame (h : temps.length = 64) (l : Nat) (hl : l < 64) :
    (commitFrame temps s).temp l = temps[l]'(by omega) := by
  have byte : ∀ j, j < 8 → (commitFrame temps s).mem.read (tempBase + 8 * l + j) = (fpBytes (temps[l]'(by omega))).getD j 0#8 := by
    intro j hj
    rw [read_commitFrame h, if_neg (by simp only [tempBase]; omega), if_pos (by simp only [tempBase]; omega)]
    rw [show tempBase + 8 * l + j - 0x400 = 8 * l + j by simp only [tempBase]; omega,
      getD_flatMap_const fpBytes_length temps l j (by omega) hj]
  refine Eq.trans ?_ (fp_of_bytes (temps[l]'(by omega)))
  simp only [State.temp, Memory.read32, Nat.add_assoc, Nat.reduceAdd]
  simp only [Nat.add_assoc] at byte
  rw [byte 7 (by omega), byte 6 (by omega), byte 5 (by omega), byte 4 (by omega), byte 3 (by omega), byte 2 (by omega),
    byte 1 (by omega), show tempBase + 8 * l = tempBase + (8 * l + 0) by omega, byte 0 (by omega)]

/-- A byte of OUT_ENC after the commit. -/
theorem encByte_commitFrame (h : temps.length = 64) (l j : Nat) (hl : l < 64) (hj : j < 2) :
    (commitFrame temps s).mem.read (encBase + (2 * l + j)) =
      (halfBytes (encTemp s.params.fpFormat (temps[l]'(by omega))).1).getD j 0#8 := by
  rw [read_commitFrame h, if_pos (by simp only [encBase]; omega)]
  rw [show encBase + (2 * l + j) - 0x280 = 2 * l + j by simp only [encBase]; omega,
    getD_flatMap_const halfBytes_length _ l j (by rw [frameEncs, List.length_map]; omega) hj]
  simp [frameEncs]

/-- OUT_ENC after the commit. -/
theorem enc_commitFrame (h : temps.length = 64) (l : Nat) (hl : l < 64) :
    (commitFrame temps s).enc l = (encTemp s.params.fpFormat (temps[l]'(by omega))).1 := by
  have b0 := encByte_commitFrame (s := s) h l 0 hl (by omega)
  have b1 := encByte_commitFrame (s := s) h l 1 hl (by omega)
  rw [State.enc, Memory.read16, show encBase + 2 * l = encBase + (2 * l + 0) by omega,
    show encBase + (2 * l + 0) + 1 = encBase + (2 * l + 1) by omega, b0, b1]
  exact half_of_bytes _

/-- The bytes on the output port are those of OUT_ENC. -/
theorem frameBytes_getD (s : State) (k : Nat) (hk : k < 128) : s.frameBytes.getD k 0#8 = s.mem.read (encBase + k) := by
  simp [State.frameBytes, List.getD_eq_getElem?_getD, hk]

@[simp] theorem frameBytes_length (s : State) : s.frameBytes.length = 128 := by simp [State.frameBytes]

/-- OUT_ENC's bytes are the little-endian bytes of its elements. -/
theorem enc_bytes (s : State) (l : Nat) :
    (s.enc l).extractLsb' 0 8 = s.mem.read (encBase + 2 * l) ∧
      (s.enc l).extractLsb' 8 8 = s.mem.read (encBase + 2 * l + 1) := by
  constructor <;>
  · apply BitVec.eq_of_getLsbD_eq
    intro i hi
    simp only [State.enc, Memory.read16, le16, BitVec.getLsbD_extractLsb', BitVec.getLsbD_append]
    simp [hi]

/-- A frame has 64 elements. -/
theorem frame_length (s : State) : s.frame.length = 64 := by simp [State.frame, frameTemps]

/-- The elements of a frame. -/
theorem frame_getElem (s : State) (l : Nat) (h : l < 64) :
    s.frame[l]'(by rw [frame_length]; exact h) = pixelOf s.params s.ee s.ta s.cp s.ir l := by
  simp [State.frame, frameTemps, pixelOf]

/-- A state with the memory and the clamp flag of the commit holds the frame. -/
theorem holdsFrame_commitFrame {t : State} (ht : t.mem = (commitFrame s.frame s).mem) (hp : t.params = s.params)
    (hc : t.encClamped = frameClamped s.params.fpFormat s.frame) :
    HoldsFrame t (pixelOf s.params s.ee s.ta s.cp s.ir) (commitFrame s.frame s).frameBytes where
  temp l hl := by
    have := temp_commitFrame (s := s) (frame_length s) l hl
    rw [frame_getElem s l hl] at this
    simpa [State.temp, ht] using this
  enc l hl := by
    have := enc_commitFrame (s := s) (frame_length s) l hl
    rw [frame_getElem s l hl] at this
    simpa [State.enc, ht, hp] using this
  clamped := by
    rw [hc, hp]
    simp only [frameClamped, List.any_eq_true]
    constructor
    · rintro ⟨x, hx, h⟩
      obtain ⟨l, hl, rfl⟩ := List.getElem_of_mem hx
      rw [frame_length] at hl
      exact ⟨l, hl, by rw [← frame_getElem s l hl]; exact h⟩
    · rintro ⟨l, hl, h⟩
      exact ⟨_, List.getElem_mem (by rw [frame_length]; exact hl), by rw [frame_getElem s l hl]; exact h⟩
  length := frameBytes_length _
  bytes l hl := by
    rw [frameBytes_getD _ _ (by omega), frameBytes_getD _ _ (by omega)]
    have := enc_bytes t l
    rw [this.1, this.2, ht]
    exact ⟨rfl, rfl⟩

/-- The commit leaves the memory outside TEMP and OUT_ENC. -/
theorem frameMemFrame_commitFrame (s : State) : frameMemFrame s.mem (commitFrame s.frame s).mem := by
  intro a h1 h2
  rw [read_commitFrame (frame_length s), if_neg h1, if_neg h2]

end Sys2Proof.Machine
end

