-- ==== Sys2Proof/Laws/Sequencer.lean ====
section
/-! SUPPORT. What the sequencer's shared operations can do, said once each: the delivery of a result, a transaction,
the run of moves, and an induction principle for the run. -/

namespace Sys2Proof.Machine

/-! ### Delivery and transactions -/

/-- Taking a result changes the position, and for the verification read POR_OBS, and nothing else. -/
theorem deliver_eq (res : OpResult) (k : Cont) (s : State) :
    deliver res k s = { s with seq := (deliver res k s).seq, porObs := (deliver res k s).porObs } := by
  cases k <;> cases res <;> rfl

/-- Only the verification read changes POR_OBS. -/
theorem deliver_porObs (res : OpResult) (k : Cont) (s : State) :
    (deliver res k s).porObs = s.porObs ∨ ∃ i, k = .initVerify i ∧ res = .ok := by
  cases k <;> cases res <;> simp [deliver]

/-- A transaction leaves the position and POR_OBS alone. -/
@[simp] theorem transaction_seq (o : BusOp) (s : State) : (transaction o s).seq = s.seq := by
  unfold transaction commitAnswer
  cases o <;> cases s.busAnswer _ <;> rfl

@[simp] theorem transaction_porObs (o : BusOp) (s : State) : (transaction o s).porObs = s.porObs := by
  unfold transaction commitAnswer
  cases o <;> cases s.busAnswer _ <;> rfl

/-- A frame's transaction for the operation that sent it. -/
theorem transact_bus {o o' : BusOp} {k : Cont} {s : State} (h : s.seq = .bus o' k) :
    transact o s = deliver (o.result (s.busAnswer o.respLen)) k (transaction o s) := by
  simp only [transact, h]

/-- A frame's transaction when no operation waits for it. -/
theorem transact_alone {o : BusOp} {s : State} (hp : ∀ o' k, s.seq ≠ .bus o' k) :
    transact o s = transaction o (s.setAddr o) := by
  unfold transact
  split
  · next o' k hs => exact absurd hs (hp o' k)
  · rfl

/-! ### The run of moves -/

@[simp] theorem runSeq_zero (s : State) : runSeq 0 s = s := rfl

theorem runSeq_atRest {n : Nat} {s : State} (h : s.atRest = true) : runSeq n s = s := by
  cases n with
  | zero => rfl
  | succ n => rw [runSeq, if_pos h]

/-- One move of a run with no outside event in the way. -/
theorem runSeq_move {n : Nat} {s : State} (h : s.atRest = false) (hi : s.inputs = []) :
    runSeq (n + 1) s = runSeq n (seqStep s) := by
  rw [runSeq, if_neg (by simp [h]), hi]

/-- One granted move. -/
theorem runSeq_advance {n : Nat} {s : State} {rest : List Input} (h : s.atRest = false)
    (hi : s.inputs = .advance :: rest) : runSeq (n + 1) s = runSeq n (seqStep { s with inputs := rest }) := by
  rw [runSeq, if_neg (by simp [h]), hi]

/-- An outside event that is due stops a run at once. -/
theorem runSeq_due {n : Nat} {s : State} {e : Input} {rest : List Input} (he : e ≠ .advance)
    (hi : s.inputs = e :: rest) : runSeq n s = s := by
  cases n with
  | zero => rfl
  | succ n => rw [runSeq, hi]; split <;> first | rfl | (split <;> simp_all)

/-- What holds before a run and is kept by every move and by the consumption of a grant holds after it. -/
theorem runSeq_keeps {P : State → Prop} (move : ∀ s, P s → s.busy = true → P (seqStep s))
    (grant : ∀ s rest, P s → P { s with inputs := rest }) (n : Nat) (s : State) (h : P s) : P (runSeq n s) := by
  induction n generalizing s with
  | zero => exact h
  | succ n ih =>
    rw [runSeq]
    split
    · exact h
    · next hr =>
      have hb : s.busy = true := by
        cases hb : s.busy
        · simp [State.atRest, hb] at hr
        · rfl
      split
      · exact ih _ (move s h hb)
      · exact ih _ (move _ (grant s _ h) hb)
      · exact h

/-! ### Commands -/

/-- The position an accepted command begins at. -/
def firstPosition (p : Params) : Instr → Seq
  | .sessionOpen => .openSession .command
  | .sessionClose => .closeSession
  | .readEeprom => .op .eeDump .command
  | .writeTrim a => .op (trimOp a) .command
  | .writeConfig a b => .op (cfgOp a b) .command
  | .readConfig => .op .cfgRead .command
  | .readPtat => .op .ptatRead .command
  | .readCp => .op .cpRead .command
  | .readIr => .op .irRead .command
  | .setRefreshRate r => .op .cfgRead (.rateRead (rateCodeOf p r) .command)
  | .checkPor => .op .cfgRead .checkPor
  | .computeTa => .computeTa
  | .computeFrame => .computeFrame
  | .init => .openSession (.initSeq .init)
  | .run => .initPhase
  | _ => .finish

end Sys2Proof.Machine
end

