-- ==== Sys2Proof/Laws/Step.lean ====
section
/-! SUPPORT. What one step can do, said once: the meanings of all instructions as one of five shapes, and an induction
principle for what every step keeps. -/

namespace Sys2Proof.Machine

/-- The state a command other than STOP is accepted from: RUN commits LOOP_STATE and RETRY_CNT with its acceptance. -/
def beforeAccept (i : Instr) (s : State) : State := if i = .run then startRun s else s

/-- The shape of every command other than STOP. -/
theorem exec_submit {i : Instr} (s : State) (hi : runsCommand i = true) :
    exec i s = .next (submit i (firstPosition s.params i) (beforeAccept i s)) := by
  cases i <;> first | rfl | (simp [runsCommand, Instr.format] at hi)

@[simp] theorem beforeAccept_busy (i : Instr) (s : State) : (beforeAccept i s).busy = s.busy := by
  unfold beforeAccept startRun
  split <;> (try split) <;> rfl

theorem beforeAccept_of_busy {i : Instr} {s : State} (hb : s.busy = true) : beforeAccept i s = s := by
  unfold beforeAccept startRun
  simp [hb]

/-- A command other than STOP, idle: accepted and run. -/
theorem exec_accept {i : Instr} {s : State} (hi : runsCommand i = true) (hb : s.busy = false) :
    exec i s = .next (runSeq runFuel (accept (encodeWord i) (firstPosition s.params i) (beforeAccept i s))) := by
  rw [exec_submit s hi, submit, if_neg (by simp [hb])]

/-- A command other than STOP, busy: rejected. -/
theorem exec_busy {i : Instr} {s : State} (hi : runsCommand i = true) (hb : s.busy = true) :
    exec i s = .next (rejectWord .commandWhileBusy s) := by
  rw [exec_submit s hi, submit, if_pos (by simp [hb]), beforeAccept_of_busy hb]

/-- A frame: one transaction. -/
theorem exec_frame (o : BusOp) (s : State) : exec o.frame s = .next (transact o s) := by
  cases o <;> rfl

/-- Every instruction is a command that runs, STOP, or a frame. -/
theorem instr_cases (i : Instr) : runsCommand i = true ∨ i = .stop ∨ ∃ o : BusOp, i = o.frame := by
  cases i
  case eeDump => exact .inr (.inr ⟨.eeDump, rfl⟩)
  case cfgRead => exact .inr (.inr ⟨.cfgRead, rfl⟩)
  case ptatRead => exact .inr (.inr ⟨.ptatRead, rfl⟩)
  case cpRead => exact .inr (.inr ⟨.cpRead, rfl⟩)
  case irRead => exact .inr (.inr ⟨.irRead, rfl⟩)
  case trimWrite c v => exact .inr (.inr ⟨.trimWrite c v, rfl⟩)
  case cfgWrite c l d m => exact .inr (.inr ⟨.cfgWrite c l d m, rfl⟩)
  case stop => exact .inr (.inl rfl)
  all_goals exact .inl (by simp [runsCommand, Instr.format])

/-- Every instruction answers a next state. -/
theorem exec_next (i : Instr) (s : State) : ∃ t, exec i s = .next t := by
  cases i <;> exact ⟨_, rfl⟩

/-- What a step keeps, from what its parts keep. -/
structure StepKeeps (P : State → Prop) : Prop where
  /-- The consumption of an outside event. -/
  grant : ∀ s rest, P s → P { s with inputs := rest }
  /-- A move of the sequencer of a busy block. -/
  move : ∀ s, P s → s.busy = true → P (seqStep s)
  /-- A frame on the bus port. -/
  frame : ∀ s o, P s → s.busPort = some o.bytes → P (transact o s)
  /-- The acceptance of a command. -/
  accept : ∀ s i, P s → s.busy = false → runsCommand i = true →
    P (Machine.accept (encodeWord i) (firstPosition s.params i) (beforeAccept i s))
  /-- A rejection. -/
  reject : ∀ s c, P s → P (rejectWord c s)
  /-- STOP while busy. -/
  stopBusy : ∀ s, P s → s.busy = true → P { s with cmd := encodeWord .stop, termReq := true }
  /-- STOP while idle. -/
  stopIdle : ∀ s, P s → s.busy = false → P (shutdown .stopped { s with cmd := encodeWord .stop })
  /-- A termination request left by a command. -/
  deferred : ∀ s, P s → s.busy = false → P (shutdown .stopped s)
  /-- A host read. -/
  read : ∀ s a, P s → P (hostRead a s)
  /-- A host write outside CMD. -/
  write : ∀ s a v, P s → P (hostWrite a v s)
  /-- The block's reset. -/
  reset : ∀ s, P s → P (blockReset s)

/-- The bytes of a frame decode to it. -/
theorem decodeFrame_bytes (o : BusOp) : decodeFrame o.bytes = .ok o.frame := by
  cases o <;> simp [BusOp.bytes, BusOp.frame, encode, decodeFrame]

/-- The bytes that decode to a frame are the frame's. -/
theorem bytes_of_decodeFrame {bs : List Byte} {i : Instr} (h : decodeFrame bs = .ok i) :
    ∃ o : BusOp, i = o.frame ∧ bs = o.bytes := by
  unfold decodeFrame at h
  repeat' split at h
  all_goals first | (cases h; done) | skip
  all_goals cases h
  · exact ⟨.eeDump, rfl, by subst_vars; rfl⟩
  · exact ⟨.cfgRead, rfl, by simp_all [BusOp.bytes, BusOp.frame, encode]⟩
  · exact ⟨.ptatRead, rfl, by simp_all [BusOp.bytes, BusOp.frame, encode]⟩
  · exact ⟨.cpRead, rfl, by simp_all [BusOp.bytes, BusOp.frame, encode]⟩
  · exact ⟨.irRead, rfl, by simp_all [BusOp.bytes, BusOp.frame, encode]⟩
  · exact ⟨.cfgWrite _ _ _ _, rfl, by subst_vars; rfl⟩
  · exact ⟨.trimWrite _ _, rfl, by simp_all [BusOp.bytes, BusOp.frame, encode]⟩

/-- A command word decodes to a command. -/
theorem decodeCommand_runs {w : Word} {i : Instr} (h : decodeCommand w = .ok i) :
    runsCommand i = true ∨ i = .stop := by
  unfold decodeCommand at h
  repeat' split at h
  all_goals first | (cases h; done) | skip
  · cases h; exact .inl rfl
  · cases h; exact .inl rfl
  · cases h; exact .inl rfl
  · next j hj _ =>
    cases h
    unfold plainCommand at hj
    split at hj <;> first | (cases hj; first | exact .inr rfl | exact .inl rfl) | cases hj

/-- What every step keeps. -/
theorem StepKeeps.step {P : State → Prop} (k : StepKeeps P) {s t : State} (h : P s) (hs : step s = .next t) : P t := by
  have command : ∀ (s : State) (w : Word) (i : Instr), P s → decodeCommand w = .ok i → ∀ t, exec i s = .next t → P t := by
    intro s w i h hd t ht
    rcases decodeCommand_runs hd with hr | rfl
    · by_cases hb : s.busy = true
      · rw [exec_busy hr hb] at ht
        cases ht
        exact k.reject s _ h
      · rw [exec_accept hr (by simpa using hb)] at ht
        cases ht
        exact runSeq_keeps k.move k.grant _ _ (k.accept s i h (by simpa using hb) hr)
    · simp only [exec, execStop] at ht
      by_cases hb : s.busy = true
      · rw [if_pos hb] at ht
        cases ht
        exact k.stopBusy s h hb
      · rw [if_neg hb] at ht
        cases ht
        exact k.stopIdle s h (by simpa using hb)
  have resume : ∀ (s : State), P s → P (resume s) := by
    intro s h
    unfold Machine.resume
    split
    · next hb => exact runSeq_keeps k.move k.grant _ _ (k.move s h hb)
    · next hb =>
      split
      · exact k.deferred s h (by simpa using hb)
      · exact h
  have advance : ∀ (s : State), P s → ∀ t, advanceSeq s = .next t → P t := by
    intro s h t ht
    unfold advanceSeq at ht
    split at ht
    · cases ht; exact resume s h
    · split at ht
      · cases ht; exact resume s h
      · next bytes hp =>
        split at ht
        · next i hi =>
          obtain ⟨o, rfl, rfl⟩ := bytes_of_decodeFrame hi
          rw [exec_frame] at ht
          cases ht
          exact k.frame s o h hp
        · cases ht
  unfold Machine.step at hs
  split at hs
  · exact advance s h t hs
  · exact advance _ (k.grant s _ h) t hs
  · cases hs; exact k.reset _ (k.grant s _ h)
  · split at hs
    · cases hs
    · cases hs; exact k.read _ _ (k.grant s _ h)
  · split at hs
    · cases hs
    · unfold writeAccess submitWord at hs
      split at hs
      · split at hs
        · next hd => exact command _ _ _ (k.grant s _ h) hd t hs
        · cases hs; exact k.reject _ _ (k.grant s _ h)
      · cases hs; exact k.write _ _ _ (k.grant s _ h)

end Sys2Proof.Machine
end

