-- ==== Sys2Proof/Laws/Run.lean ====
section
/-! SUPPORT. The runs of the sequencer that every command is made of, each said once: a protocol operation, a session
opening, and the command ends. -/

namespace Sys2Proof.Machine

/-- The oracle's answer depends on the pending answers and the request number alone. -/
theorem busAnswer_congr {s t : State} (n : Nat) (h1 : s.answers = t.answers) (h2 : s.reqCount = t.reqCount) :
    s.busAnswer n = t.busAnswer n := by
  simp only [State.busAnswer, h1, h2]

/-- A transaction on the bus targeted for it, from its answer. -/
theorem transaction_eq {o : BusOp} {s : State} {r : Option (List Byte)} (ha : s.busAnswer o.respLen = r) :
    transaction o (s.setAddr o) = commitAnswer o r (sent o.target (o.event r) s) := by
  subst ha; rfl

/-- Taking a result does not depend on the position it is taken at. -/
theorem deliver_seq (res : OpResult) (k : Cont) (s : State) (q : Seq) :
    deliver res k { s with seq := q } = deliver res k s := by
  cases k <;> cases res <;> rfl

/-- A commit does not depend on the position. -/
theorem commitAnswer_seq (o : BusOp) (r : Option (List Byte)) (s : State) (q : Seq) :
    commitAnswer o r { s with seq := q } = { commitAnswer o r s with seq := q } := by
  cases o <;> cases r <;> rfl

/-- A busy block outside a pause goes on. -/
theorem atRest_of_busy {s : State} (hb : s.busy = true) (hq : s.seq.isPause = false) : s.atRest = false := by
  simp [State.atRest, hb, hq]

/-- The three moves of a protocol operation with a session open: target, request, answer (R153). -/
theorem runSeq_op {n : Nat} {s : State} {o : BusOp} {k : Cont} {r : Option (List Byte)} (hb : s.busy = true)
    (hi : s.inputs = []) (hs : s.sessionOpen = true) (hq : s.seq = .op o k) (ha : s.busAnswer o.respLen = r) :
    runSeq (n + 3) s = runSeq n (deliver (o.result r) k (commitAnswer o r (sent o.target (o.event r) s))) := by
  have h1 : seqStep s = { s.setAddr o with seq := .request o k } := by
    simp only [seqStep, hq, beginOp, hs, if_true]
  rw [runSeq_move (atRest_of_busy hb (by rw [hq]; rfl)) hi, h1,
    runSeq_move (s := { s.setAddr o with seq := .request o k }) (atRest_of_busy hb rfl) hi]
  refine (runSeq_move (s := { s.setAddr o with busPort := some o.bytes, seq := .bus o k }) (atRest_of_busy hb rfl)
    hi).trans ?_
  congr 1
  have ha' : State.busAnswer { s.setAddr o with busPort := some o.bytes, seq := .bus o k } o.respLen = r := by
    rw [← ha]; exact busAnswer_congr _ rfl rfl
  simp only [seqStep]
  rw [transact_bus (k := k) (o' := o) rfl, ha',
    ← deliver_seq _ _ (commitAnswer o r (sent o.target (o.event r) s)) (.bus o k), ← commitAnswer_seq]
  subst ha'
  rfl

/-- A protocol operation with no session open fails in one move (R153). -/
theorem runSeq_op_closed {n : Nat} {s : State} {o : BusOp} {k : Cont} (hb : s.busy = true)
    (hi : s.inputs = []) (hs : s.sessionOpen = false) (hq : s.seq = .op o k) :
    runSeq (n + 1) s = runSeq n (deliver (.fail .sessionClosed) k s) := by
  rw [runSeq_move (atRest_of_busy hb (by rw [hq]; rfl)) hi]
  simp only [seqStep, hq, beginOp, hs, Bool.false_eq_true, if_false]

/-- One move from a position that is no pause, its outcome known. -/
theorem runSeq_to {n : Nat} {s t : State} (hb : s.busy = true) (hi : s.inputs = []) (hq : s.seq.isPause = false)
    (h : seqStep s = t) : runSeq (n + 1) s = runSeq n t := by
  rw [runSeq_move (atRest_of_busy hb hq) hi, h]

/-- The first move of a session opening ends an open session (R150). -/
theorem seqStep_openSession {s : State} {k : Caller} (hq : s.seq = .openSession k) :
    seqStep s = { s with
      sessionOpen := false
      trace := if s.sessionOpen then .busEnd :: s.trace else s.trace
      seq := .openBegin k } := by
  simp only [seqStep, hq]
  by_cases h : s.sessionOpen <;> simp [h, State.record]

/-- The moves of a session opening after the first (R150). -/
theorem runSeq_openBegin {n : Nat} {s : State} {k : Caller} (hb : s.busy = true) (hi : s.inputs = [])
    (hq : s.seq = .openBegin k) :
    runSeq (n + 4) s = runSeq n { s with
      sessionOpen := true
      busClk := some 25000
      trace := .wait .settle s.params.settleMs :: .busSetClk 25000 :: .busBegin :: s.trace
      seq := afterOpen k } := by
  rw [runSeq_to (t := { s with sessionOpen := true, trace := .busBegin :: s.trace, seq := .openClock k }) hb hi
      (by rw [hq]; rfl) (by simp only [seqStep, hq]; rfl)]
  generalize h1 : ({ s with sessionOpen := true, trace := .busBegin :: s.trace, seq := .openClock k } : State) = s1
  generalize h2 : ({ s1 with
    busClk := some 25000, trace := .busSetClk 25000 :: s1.trace, seq := .openSettle k } : State) = s2
  rw [runSeq_to (t := s2) (by subst h1; exact hb) (by subst h1; exact hi) (by subst h1; rfl) (by subst h2 h1; rfl)]
  generalize h3 : ({ s2 with trace := .wait .settle s2.params.settleMs :: s2.trace, seq := .settling k } : State) = s3
  rw [runSeq_to (t := s3) (by subst h2 h1; exact hb) (by subst h2 h1; exact hi) (by subst h2; rfl)
      (by subst h3 h2; rfl),
    runSeq_to (t := { s3 with seq := afterOpen k }) (by subst h3 h2 h1; exact hb) (by subst h3 h2 h1; exact hi)
      (by subst h3; rfl) (by subst h3; rfl)]
  subst h3 h2 h1
  rfl

/-- The five moves of a session opening (R150). -/
theorem runSeq_openSession {n : Nat} {s : State} {k : Caller} (hb : s.busy = true) (hi : s.inputs = [])
    (hq : s.seq = .openSession k) :
    runSeq (n + 5) s = runSeq n { s with
      sessionOpen := true
      busClk := some 25000
      trace := openingTrace s
      seq := afterOpen k } := by
  rw [runSeq_to hb hi (by rw [hq]; rfl) (seqStep_openSession hq)]
  exact runSeq_openBegin (s := { s with
    sessionOpen := false
    trace := if s.sessionOpen then .busEnd :: s.trace else s.trace
    seq := .openBegin k }) hb hi rfl

/-- `end` (R296). -/
theorem runSeq_finish {n : Nat} {s : State} (hb : s.busy = true) (hi : s.inputs = []) (hq : s.seq = .finish) :
    runSeq (n + 1) s = commandEnd .normal s := by
  rw [runSeq_move (atRest_of_busy hb (by rw [hq]; rfl)) hi]
  simp only [seqStep, hq]
  exact runSeq_atRest rfl

/-- `raise c` (R296). -/
theorem runSeq_raise {n : Nat} {s : State} {c : Cause} (hb : s.busy = true) (hi : s.inputs = [])
    (hq : s.seq = .raiseCause c) : runSeq (n + 1) s = commandEnd (.raised c) s := by
  rw [runSeq_move (atRest_of_busy hb (by rw [hq]; rfl)) hi]
  simp only [seqStep, hq]
  exact runSeq_atRest rfl

/-- The shutdown routine (R272). -/
theorem runSeq_shutdown {n : Nat} {s : State} {c : Cause} (hb : s.busy = true) (hi : s.inputs = [])
    (hq : s.seq = .shutdown c) : runSeq (n + 1) s = shutdown c s := by
  rw [runSeq_move (atRest_of_busy hb (by rw [hq]; rfl)) hi]
  simp only [seqStep, hq]
  exact runSeq_atRest rfl

end Sys2Proof.Machine
end

