-- ==== Sys2Proof/Laws/Init.lean ====
section
/-! SUPPORT. What the initialization sequence can do, said once: a failure at a fatal step (R252), or a return with
its warnings (R251, R253, R254). -/

namespace Sys2Proof.Machine

/-! ### One operation, and the image -/

/-- A protocol operation with a session open, the state it leaves known. -/
theorem runSeq_op_to {n : Nat} {s t : State} (o : BusOp) (k : Cont) (r : Option (List Byte)) (hb : s.busy = true)
    (hi : s.inputs = []) (hs : s.sessionOpen = true) (hq : s.seq = .op o k) (ha : s.busAnswer o.respLen = r)
    (ht : deliver (o.result r) k (commitAnswer o r (sent o.target (o.event r) s)) = t) :
    runSeq (n + 3) s = runSeq n t := by
  rw [runSeq_op hb hi hs hq ha, ht]

/-- An operation and its result leave BUSY and the outside events alone. -/
theorem deliver_commit_frame (o : BusOp) (k : Cont) (r : Option (List Byte)) (res : OpResult) (s : State) :
    (deliver res k (commitAnswer o r s)).busy = s.busy ∧ (deliver res k (commitAnswer o r s)).inputs = s.inputs := by
  rw [deliver_eq]
  cases o <;> cases r <;> exact ⟨rfl, rfl⟩

/-- A protocol operation with a session open and the move after it. -/
theorem runSeq_op_move {n : Nat} {s t : State} (o : BusOp) (k : Cont) (r : Option (List Byte)) (hb : s.busy = true)
    (hi : s.inputs = []) (hs : s.sessionOpen = true) (hq : s.seq = .op o k) (ha : s.busAnswer o.respLen = r)
    (hp : (deliver (o.result r) k (commitAnswer o r (sent o.target (o.event r) s))).seq.isPause = false)
    (ht : seqStep (deliver (o.result r) k (commitAnswer o r (sent o.target (o.event r) s))) = t) :
    runSeq (n + 4) s = runSeq n t := by
  have h := deliver_commit_frame o k r (o.result r) (sent o.target (o.event r) s)
  rw [runSeq_op hb hi hs hq ha, runSeq_to (h.1.trans hb) (h.2.trans hi) hp ht]

/-- The answer to the `k`-th request from now on is the answer after `k` requests. -/
theorem busAnswer_of_answerAt {s t : State} {k n : Nat} {r : Option (List Byte)} (h : s.answerAt k n = r)
    (ha : t.answers = s.answers.drop k) (hr : t.reqCount = s.reqCount + k) : t.busAnswer n = r := by
  rw [← h]
  exact busAnswer_congr _ ha hr

/-- EE after an image has been committed (R152). -/
theorem ee_writeBlock {s t : State} {e : List Byte} (hl : e.length = 256) (ht : t.mem = s.mem.writeBlock eeBase e) :
    t.ee = imageOf e := by
  funext a
  have ha := a.isLt
  unfold State.ee
  rw [ht, Memory.read_writeBlock, hl, if_pos (by constructor <;> omega), Nat.add_sub_cancel_left]
  rfl

/-- Memory after an image has been committed (R152). -/
theorem holdsImage_writeBlock {m : Memory} {e : List Byte} (hl : e.length = 256) :
    HoldsImage m e (m.writeBlock eeBase e) := by
  intro a
  simp only [Memory.read_writeBlock, hl, eeBase]

theorem tail_tail {α : Type} (l : List α) : l.tail.tail = l.drop 2 := by
  cases l with
  | nil => rfl
  | cons a t => cases t <;> rfl

/-! ### The steps up to the configuration write -/

/-- After the image read. -/
def imaged (s : State) (e : List Byte) (q : Seq) : State :=
  { s with
    sessionOpen := true
    busClk := some 25000
    busAddr := 0x50#7
    busPort := none
    mem := s.mem.writeBlock eeBase e
    eeValid := true
    answers := s.answers.drop 1
    reqCount := s.reqCount + 1
    trace := imageTrace s e
    seq := q }

/-- After the trim write. -/
def trimmed (s : State) (e : List Byte) (ok : Bool) (q : Seq) : State :=
  { imaged s e q with
    busAddr := 0x60#7
    answers := s.answers.drop 2
    reqCount := s.reqCount + 2
    trace := trimTrace s e ok }

/-- After the configuration write. -/
def configured (s : State) (e : List Byte) (ok : Bool) (q : Seq) : State :=
  { trimmed s e ok q with
    cfgValid := false
    answers := s.answers.drop 3
    reqCount := s.reqCount + 3
    trace := configTrace s e ok }

/-- The session opening and the image read, answered. -/
theorem runSeq_initImage {n : Nat} {s : State} {i : InitCaller} {e : List Byte} (hb : s.busy = true)
    (hi : s.inputs = []) (hq : s.seq = .openSession (.initSeq i)) (he : s.answerAt 0 256 = some e) :
    runSeq (n + 8) s = runSeq n (imaged s e (.op (trimOp (e.getD 0xF7 0#8)) (.initTrim i))) := by
  refine (runSeq_openSession (n := n + 3) (k := .initSeq i) hb hi hq).trans
    (runSeq_op_to .eeDump (.initEeprom i) (some e) hb hi rfl rfl he ?_)
  simp only [deliver, BusOp.result, commitAnswer, sent]
  rw [ee_writeBlock (busAnswer_length he) rfl]
  simp [imaged, imageTrace, imageOf, BusOp.event, BusOp.respLen, BusOp.target, BusOp.bytes, encode, BusOp.frame]

/-- The session opening and the image read, failed. -/
theorem runSeq_initImage_fail {n : Nat} {s : State} {i : InitCaller} {e : List Byte} (hb : s.busy = true)
    (hi : s.inputs = []) (hq : s.seq = .openSession (.initSeq i)) (he : s.answerAt 0 256 = none) :
    runSeq (n + 8) s =
      runSeq n { initFailed s e .eeprom s.mem with seq := initFail .busTransactionFailed i } := by
  refine (runSeq_openSession (n := n + 3) (k := .initSeq i) hb hi hq).trans
    (runSeq_op_to .eeDump (.initEeprom i) none hb hi rfl rfl he ?_)
  simp [initFailed, FatalStep.requests, FatalStep.trace, deliver, BusOp.result, commitAnswer, sent, BusOp.event,
    BusOp.respLen, BusOp.target, BusOp.bytes, encode, BusOp.frame, BusOp.failCause]

/-- The trim write, answered or failed. -/
theorem runSeq_initTrim {n : Nat} {s : State} {i : InitCaller} {e : List Byte} {r : Option (List Byte)}
    (hb : s.busy = true) (hi : s.inputs = []) (hl : e.length = 256) (ht : s.answerAt 1 0 = r) :
    runSeq (n + 3) (imaged s e (.op (trimOp (e.getD 0xF7 0#8)) (.initTrim i))) =
      runSeq n (trimmed s e r.isSome (if r.isSome then .op (cfgOp (e.getD 0xF5 0#8) (e.getD 0xF6 0#8)) (.initConfig i)
        else initFail .busTransactionFailed i)) := by
  refine runSeq_op_to (trimOp (e.getD 0xF7 0#8)) (.initTrim i) r hb hi rfl rfl ht ?_
  cases r <;> simp only [deliver, BusOp.result, commitAnswer, sent, trimOp]
  · simp [tail_tail, trimmed, imaged, trimTrace, trimBytes, BusOp.event, BusOp.target, BusOp.bytes, encode,
      BusOp.frame, chk, BusOp.failCause]
  · rw [ee_writeBlock hl rfl]
    simp [tail_tail, trimmed, imaged, imageOf, trimTrace, trimBytes, BusOp.event, BusOp.target, BusOp.bytes, encode,
      BusOp.frame, chk]

/-- The configuration write, answered or failed. -/
theorem runSeq_initConfig {n : Nat} {s : State} {i : InitCaller} {e : List Byte} {r : Option (List Byte)}
    (hb : s.busy = true) (hi : s.inputs = []) (hc : s.answerAt 2 0 = r) :
    runSeq (n + 3) (trimmed s e true (.op (cfgOp (e.getD 0xF5 0#8) (e.getD 0xF6 0#8)) (.initConfig i))) =
      runSeq n (configured s e r.isSome (if r.isSome then
          .op .cfgRead (.rateRead (rateCodeOf s.params 8#16) (.initSeq i))
        else initFail .busTransactionFailed i)) := by
  refine runSeq_op_to (cfgOp (e.getD 0xF5 0#8) (e.getD 0xF6 0#8)) (.initConfig i) r hb hi rfl rfl hc ?_
  cases r <;> simp only [deliver, BusOp.result, commitAnswer, sent, cfgOp] <;>
    simp [configured, trimmed, imaged, configTrace, cfgBytes, BusOp.event, BusOp.target, BusOp.bytes, encode,
      BusOp.frame, chk, BusOp.failCause]

/-- A failure of the initialization sequence at a fatal step (R252). -/
theorem runSeq_initFailed {s : State} {i : InitCaller} {e : List Byte} {f : FatalStep} (hb : s.busy = true)
    (hi : s.inputs = []) (hq : s.seq = .openSession (.initSeq i)) (hf : f.FailsAt s e) :
    ∃ k ≤ 14, ∃ m, f.Mem s.mem e m ∧
      ∀ n, runSeq (n + k) s = runSeq n { initFailed s e f m with seq := initFail .busTransactionFailed i } := by
  cases f with
  | eeprom => exact ⟨8, by omega, s.mem, rfl, fun n => runSeq_initImage_fail hb hi hq hf⟩
  | trim =>
    obtain ⟨he, ht⟩ := hf
    have hl := busAnswer_length he
    exact ⟨11, by omega, _, holdsImage_writeBlock hl, fun n => (runSeq_initImage (n := n + 3) hb hi hq he).trans
      ((runSeq_initTrim (r := none) hb hi hl ht).trans
        (by simp [trimmed, imaged, initFailed, FatalStep.requests, FatalStep.trace]))⟩
  | config =>
    obtain ⟨he, ht, hc⟩ := hf
    have hl := busAnswer_length he
    refine ⟨14, by omega, _, holdsImage_writeBlock hl, fun n => (runSeq_initImage (n := n + 6) hb hi hq he).trans
      ((runSeq_initTrim (n := n + 3) hb hi hl rfl).trans ?_)⟩
    rw [ht]
    exact (runSeq_initConfig (r := none) hb hi hc).trans
      (by simp [configured, trimmed, imaged, initFailed, FatalStep.requests, FatalStep.trace])

/-! ### The rate step and the verification -/

/-- After the rate step, its warning included (R253). -/
def rated (s : State) (e : List Byte) (r : RateStep) (q : Seq) : State :=
  { configured s e true q with
    cfgLsb := (r.shadow.map Prod.fst).getD s.cfgLsb
    cfgMsb := (r.shadow.map Prod.snd).getD s.cfgMsb
    cfgShown := r.shadow.isSome
    rateCode := if r.ok then rateCodeOf s.params 8#16 else s.rateCode
    rateValid := r.ok || s.rateValid
    lastCause := if r.ok then s.lastCause else .busTransactionFailed
    ownCause := if r.ok then s.ownCause else .busTransactionFailed
    event := if r.ok then s.event else s.event ||| evWarn
    answers := s.answers.drop (3 + r.requests)
    reqCount := s.reqCount + (3 + r.requests)
    trace := r.events (rateCodeOf s.params 8#16) ++ configTrace s e true }

/-- The moves of the rate step. -/
def RateStep.moves : RateStep → Nat
  | .readFails => 4
  | .done _ _ => 7
  | .writeFails _ _ => 7

/-- The rate step's read, answered. -/
theorem runSeq_rateRead {n : Nat} {s : State} {i : InitCaller} {e : List Byte} {l m : Byte} (hb : s.busy = true)
    (hi : s.inputs = []) (h : s.answerAt 3 2 = some [l, m]) :
    runSeq (n + 3) (configured s e true (.op .cfgRead (.rateRead (rateCodeOf s.params 8#16) (.initSeq i)))) =
      runSeq n { configured s e true
          (.op (cfgOp (l.extractLsb' 4 4 ++ rateCodeOf s.params 8#16) m)
            (.rateWrite (rateCodeOf s.params 8#16) (.initSeq i))) with
        cfgLsb := l
        cfgMsb := m
        cfgValid := true
        cfgShown := true
        answers := s.answers.drop 4
        reqCount := s.reqCount + 4
        trace := .busWriteRead cfgReadBytes 2 (some [l, m]) :: .busSetAddr 0x60#7 :: configTrace s e true } := by
  refine runSeq_op_to .cfgRead (.rateRead (rateCodeOf s.params 8#16) (.initSeq i)) (some [l, m]) hb hi rfl rfl h ?_
  simp [configured, trimmed, imaged, deliver, BusOp.result, commitAnswer, sent, BusOp.event, BusOp.respLen,
    BusOp.target, BusOp.bytes, encode, BusOp.frame, cfgReadBytes, respByte, rateLsb]

/-- The rate step, however it goes (R164, R253). -/
theorem runSeq_rateStep {n : Nat} {s : State} {i : InitCaller} {e : List Byte} {r : RateStep} (hb : s.busy = true)
    (hi : s.inputs = []) (hr : r.Answers s) :
    runSeq (n + r.moves) (configured s e true (.op .cfgRead (.rateRead (rateCodeOf s.params 8#16) (.initSeq i)))) =
      runSeq n (rated s e r (.op .cfgRead (.initVerify i))) := by
  cases r with
  | readFails =>
    refine runSeq_op_move .cfgRead (.rateRead (rateCodeOf s.params 8#16) (.initSeq i)) none (by exact hb) (by exact hi)
      (by rfl) (by rfl) (by exact hr) (by rfl) ?_
    simp [seqStep, rateFail, afterWarn, warn, rated, RateStep.shadow, RateStep.requests, RateStep.ok, RateStep.events,
      configured, trimmed, imaged, deliver, BusOp.result, commitAnswer, sent, BusOp.event, BusOp.respLen, BusOp.target,
      BusOp.bytes, encode, BusOp.frame, cfgReadBytes, BusOp.failCause]
  | done l m =>
    obtain ⟨w, hw⟩ := Option.isSome_iff_exists.1 hr.2
    refine (runSeq_rateRead (n := n + 4) hb hi hr.1).trans (runSeq_op_move
      (cfgOp (l.extractLsb' 4 4 ++ rateCodeOf s.params 8#16) m) (.rateWrite (rateCodeOf s.params 8#16) (.initSeq i))
      (some w) (by exact hb) (by exact hi) (by rfl) (by rfl) (by exact hw) (by rfl) ?_)
    simp [seqStep, cfgOp, chk, cfgBytes, afterRate, rated, RateStep.shadow, RateStep.requests, RateStep.ok,
      RateStep.events, configured, trimmed, imaged, deliver, BusOp.result, commitAnswer, sent, BusOp.event,
      BusOp.target, BusOp.bytes, encode, BusOp.frame]
  | writeFails l m =>
    refine (runSeq_rateRead (n := n + 4) hb hi hr.1).trans (runSeq_op_move
      (cfgOp (l.extractLsb' 4 4 ++ rateCodeOf s.params 8#16) m) (.rateWrite (rateCodeOf s.params 8#16) (.initSeq i))
      none (by exact hb) (by exact hi) (by rfl) (by rfl) (by exact hr.2) (by rfl) ?_)
    simp [seqStep, cfgOp, chk, cfgBytes, rateFail, afterWarn, warn, rated, RateStep.shadow, RateStep.requests,
      RateStep.ok, RateStep.events, configured, trimmed, imaged, deliver, BusOp.result, commitAnswer, sent, BusOp.event,
      BusOp.target, BusOp.bytes, encode, BusOp.frame, BusOp.failCause]

/-- An initialization sequence that returns `Ok` (R251, R253, R254). -/
theorem runSeq_initDone {s : State} {i : InitCaller} {e : List Byte} {r : RateStep} {v : Option (Byte × Byte)}
    (hb : s.busy = true) (hi : s.inputs = []) (hq : s.seq = .openSession (.initSeq i)) (h : InitAnswers s e r v) :
    ∃ k ≤ 25, ∀ n, runSeq (n + k) s =
      runSeq n (initWarned r v { initDone s e r v (s.mem.writeBlock eeBase e) with seq := .initDone i }) := by
  obtain ⟨he, ht, hc, hr, hv⟩ := h
  have hl := busAnswer_length he
  have hk : r.moves ≤ 7 := by cases r <;> simp [RateStep.moves]
  have pre : ∀ n, runSeq (n + 14) s =
      runSeq n (configured s e true (.op .cfgRead (.rateRead (rateCodeOf s.params 8#16) (.initSeq i)))) := by
    intro n
    refine (runSeq_initImage (n := n + 6) hb hi hq he).trans ((runSeq_initTrim (n := n + 3) hb hi hl rfl).trans ?_)
    rw [ht]
    refine (runSeq_initConfig (n := n) hb hi rfl).trans ?_
    rw [hc]
    rfl
  cases v with
  | some c =>
    obtain ⟨l, m⟩ := c
    refine ⟨3 + r.moves + 14, by omega, fun n => ?_⟩
    rw [show n + (3 + r.moves + 14) = n + 3 + r.moves + 14 by omega]
    refine (pre _).trans ((runSeq_rateStep (n := n + 3) hb hi hr).trans (runSeq_op_to .cfgRead (.initVerify i)
      (some [l, m]) (by exact hb) (by exact hi) (by rfl) (by rfl) (by exact busAnswer_of_answerAt hv rfl rfl) ?_))
    simp [initWarned, flagSeen, porFlag, initDone, initTrace, rated, configured, trimmed, imaged, deliver, BusOp.result,
      commitAnswer, sent, BusOp.event, BusOp.respLen, BusOp.target, BusOp.bytes, encode, BusOp.frame, cfgReadBytes,
      respByte, ← Nat.add_assoc, Nat.add_right_comm]
  | none =>
    refine ⟨4 + r.moves + 14, by omega, fun n => ?_⟩
    rw [show n + (4 + r.moves + 14) = n + 4 + r.moves + 14 by omega]
    refine (pre _).trans ((runSeq_rateStep (n := n + 4) hb hi hr).trans (runSeq_op_move .cfgRead (.initVerify i) none
      (by exact hb) (by exact hi) (by rfl) (by rfl) (by exact busAnswer_of_answerAt hv rfl rfl) (by rfl) ?_))
    cases r <;>
      simp [initWarned, flagSeen, seqStep, afterWarn, warn, RateStep.ok, RateStep.shadow, RateStep.requests, initDone,
        initTrace, rated, configured, trimmed, imaged, deliver, BusOp.result, commitAnswer, sent, BusOp.event,
        BusOp.respLen, BusOp.target, BusOp.bytes, encode, BusOp.frame, cfgReadBytes, BusOp.failCause, BitVec.or_assoc]

end Sys2Proof.Machine
end

