-- ==== Sys2Proof/Laws/Cycle.lean ====
section
/-! SUPPORT. What the ambient step, the cycle's frame and one whole cycle of RUN can do, said once each (R259, R229,
R262). -/

namespace Sys2Proof.Machine

/-! ### The step at a position of RUN -/

/-- A step of RUN with nothing due is a run of the sequencer from the move after its position. -/
theorem step_runsAt {s : State} {q : Seq} (h : s.RunsAt q) : step s = .next (runSeq runFuel (seqStep s)) := by
  obtain ⟨hb, hi, hp, -, -⟩ := h
  simp [step, State.stopDeferred, hb, hi, advanceSeq, hp, resume]

/-- A step of RUN at the end of a pause (R271). -/
theorem step_pause {s : State} {p : Pause} (h : s.RunsAt (.pause p)) :
    step s = .next (runSeq runFuel (afterPause p s)) := by
  rw [step_runsAt h, seqStep, h.seq]

/-! ### The frame -/

/-- `s` after the cycle's frame has been emitted and its pause begun (R229, R267, R268). -/
def cycleEnded (s : State) : State :=
  { s with
    mem := (commitFrame s.frame s).mem
    frameValid := true
    encClamped := frameClamped s.params.fpFormat s.frame
    frameCount := s.frameCount + 1#32
    event := s.event ||| (if frameClamped s.params.fpFormat s.frame then evFrame ||| evWarn else evFrame)
    retryCnt := 0
    seq := .pause .cycle
    trace := .wait .cycle s.params.cycleMs :: .emit (commitFrame s.frame s).frameBytes :: s.trace }

/-- The cycle's frame and pause (R229, R267, R268). -/
theorem runSeq_cycleFrame {n : Nat} {s : State} (hb : s.busy = true) (hi : s.inputs = []) (hq : s.seq = .cycleFrame)
    (he : s.eeValid = true) (ht : s.taValid = true) (hc : s.cpValid = true) (hr : s.irValid = true) :
    runSeq (n + 2) s = cycleEnded s := by
  have h : frameResult s = .ok := by simp [frameResult, he, ht, hc, hr]
  refine (runSeq_to (t := { emission s with seq := .cycleWait }) hb hi (by rw [hq]; rfl) (by simp [seqStep, hq, h])).trans
    ((runSeq_to (n := n) (t := cycleEnded s) (by exact hb) (by exact hi) (by rfl) ?_).trans (runSeq_atRest ?_))
  · simp [seqStep, cycleEnded, emission, emitFrame, commitFrame, State.beginWait, State.record, waitMin]
    rfl
  · simp [State.atRest, cycleEnded, Seq.isPause]

/-! ### The ambient step -/

/-- The computation of the ambient step (R210, R212, R259). -/
theorem seqStep_ambientTa {s : State} {a : AmbientCaller} (hq : s.seq = .ambientTa a) (he : s.eeValid = true)
    (hp : s.ptatValid = true) :
    seqStep s = { s with
      ta := taFormula s.params s.ee s.ptat
      taShown := true
      taValid := plausible s.params.fpFormat (taFormula s.params s.ee s.ptat)
      seq := if plausible s.params.fpFormat (taFormula s.params s.ee s.ptat) then afterAmbient a
        else .ambientRetry .calibrationImplausible } := by
  simp only [seqStep, hq, taResult, commitTa, he, hp]
  cases plausible s.params.fpFormat (taFormula s.params s.ee s.ptat) <;> rfl

/-- An ambient step that reads `[p0, p1]`, whatever the gate says (R259). -/
theorem runSeq_ambientStep {n : Nat} {s : State} {a : AmbientCaller} {p0 p1 : Byte} {b : Bool} (hb : s.busy = true)
    (hi : s.inputs = []) (hs : s.sessionOpen = true) (hq : s.seq = .op .ptatRead (.ambientPtat a))
    (he : s.eeValid = true) (ha : s.busAnswer 2 = some [p0, p1])
    (hp : plausible s.params.fpFormat (taFormula s.params s.ee (p1 ++ p0)) = b) :
    runSeq (n + 4) s = runSeq n { ambientDone s p0 p1 with
      taValid := b
      seq := if b then afterAmbient a else .ambientRetry .calibrationImplausible } := by
  subst hp
  have h1 : runSeq (n + 4) s =
      runSeq (n + 1) { sent 0x60#7 (.busWriteRead [0x02#8, 0x90#8, 0x00#8, 0x01#8] 2 (some [p0, p1])) s with
        ptat := p1 ++ p0, ptatValid := true, seq := .ambientTa a } := by
    refine runSeq_op_to .ptatRead (.ambientPtat a) (some [p0, p1]) hb hi hs hq ha ?_
    simp [deliver, BusOp.result, commitAnswer, sent, BusOp.event, BusOp.respLen, BusOp.target, BusOp.bytes, encode,
      BusOp.frame, respByte, le16]
  rw [h1]
  exact runSeq_to (by exact hb) (by exact hi) (by rfl) (seqStep_ambientTa (a := a) rfl he rfl)

/-- An ambient step that reads `[p0, p1]` and finds it plausible (R259). -/
theorem runSeq_ambient {n : Nat} {s : State} {a : AmbientCaller} {p0 p1 : Byte} (hb : s.busy = true)
    (hi : s.inputs = []) (hs : s.sessionOpen = true) (hq : s.seq = .op .ptatRead (.ambientPtat a))
    (he : s.eeValid = true) (ha : s.busAnswer 2 = some [p0, p1])
    (hp : plausible s.params.fpFormat (taFormula s.params s.ee (p1 ++ p0)) = true) :
    runSeq (n + 4) s = runSeq n { ambientDone s p0 p1 with seq := afterAmbient a } :=
  runSeq_ambientStep hb hi hs hq he ha hp

/-! ### One cycle -/

/-- The answers to a cycle's reads, `j` requests later. -/
theorem CycleAnswers.later {s t : State} {j k : Nat} {d : CycleData} (h : CycleAnswers s (j + k) d)
    (ha : t.answers = s.answers.drop j) (hr : t.reqCount = s.reqCount + j) (hp : t.params = s.params) :
    CycleAnswers t k d := by
  have key : ∀ m n, t.answerAt m n = s.answerAt (j + m) n := fun m n =>
    busAnswer_congr _ (by simp [ha]) (by simp [hr, Nat.add_assoc])
  exact ⟨by rw [key]; exact h.check, by rw [hp]; exact h.clear, by rw [key]; exact h.ptat, by rw [key]; exact h.cp,
    by rw [key]; exact h.ir⟩

/-- RAW_IR after a frame has been committed (R161). -/
theorem ir_writeBlock {s t : State} {b : List Byte} (hl : b.length = 128) (ht : t.mem = s.mem.writeBlock irBase b)
    (x : Nat) (hx : x < 64) : t.ir x = rawOf b x := by
  simp only [State.ir, Memory.read16, ht, Memory.read_writeBlock, irBase, hl, rawOf, le16]
  rw [if_pos (by omega), if_pos (by omega), show 0x200 + 2 * x + 1 - 0x200 = 2 * x + 1 by omega,
    show 0x200 + 2 * x - 0x200 = 2 * x by omega]

/-- `s` after the four reads of a cycle (R262). -/
def cycleRead (s : State) (d : CycleData) : State :=
  { s with
    loopState := .ready
    busAddr := 0x60#7
    busPort := none
    cfgLsb := d.cfgL
    cfgMsb := d.cfgM
    cfgValid := true
    cfgShown := true
    ptat := d.ptat
    ptatValid := true
    ta := taFormula s.params s.ee d.ptat
    taShown := true
    taValid := true
    cp := d.cp
    cpValid := true
    mem := s.mem.writeBlock irBase d.ir
    irValid := true
    answers := s.answers.drop 4
    reqCount := s.reqCount + 4
    trace :=
      [.busWriteRead [0x02#8, 0x00#8, 0x01#8, 0x40#8] 128 (some d.ir), .busSetAddr 0x60#7,
       .busWriteRead [0x02#8, 0x91#8, 0x00#8, 0x01#8] 2 (some [d.cp0, d.cp1]), .busSetAddr 0x60#7,
       .busWriteRead [0x02#8, 0x90#8, 0x00#8, 0x01#8] 2 (some [d.ptat0, d.ptat1]), .busSetAddr 0x60#7,
       .busWriteRead cfgReadBytes 2 (some [d.cfgL, d.cfgM]), .busSetAddr 0x60#7] ++ s.trace
    seq := .cycleFrame }

/-- The check of a cycle that reads `[l, m]` (R263). -/
theorem runSeq_check {n : Nat} {s : State} {l m : Byte} (hb : s.busy = true) (hi : s.inputs = [])
    (hs : s.sessionOpen = true) (hq : s.seq = .cycle) (ha : s.busAnswer 2 = some [l, m]) :
    runSeq (n + 4) s = runSeq n { cycleChecked s l m with
      seq := if porFlag s.params m then .faultedPhase else .op .ptatRead (.ambientPtat .cycle) } := by
  refine (runSeq_to (t := { s with loopState := .ready, seq := .op .cfgRead .cyclePor }) hb hi (by rw [hq]; rfl)
    (by simp [seqStep, hq])).trans ?_
  refine runSeq_op_to .cfgRead .cyclePor (some [l, m]) hb hi hs rfl ha ?_
  simp [cycleChecked, deliver, BusOp.result, commitAnswer, sent, BusOp.event, BusOp.respLen, BusOp.target, BusOp.bytes,
    encode, BusOp.frame, cfgReadBytes, respByte]

/-- The check of a cycle that fails, and its warning (R263). -/
theorem runSeq_checkFails {n : Nat} {s : State} (hb : s.busy = true) (hi : s.inputs = []) (hs : s.sessionOpen = true)
    (hq : s.seq = .cycle) (ha : s.busAnswer 2 = none) :
    runSeq (n + 5) s = runSeq n { cycleCheckFailed s with seq := .faultedPhase } := by
  refine (runSeq_to (t := { s with loopState := .ready, seq := .op .cfgRead .cyclePor }) hb hi (by rw [hq]; rfl)
    (by simp [seqStep, hq])).trans ?_
  refine runSeq_op_move .cfgRead .cyclePor none hb hi hs rfl ha rfl ?_
  simp [seqStep, afterWarn, warn, cycleCheckFailed, deliver, BusOp.result, commitAnswer, sent, BusOp.event, BusOp.respLen,
    BusOp.target, BusOp.bytes, encode, BusOp.frame, cfgReadBytes, BusOp.failCause]

/-- The four reads of a cycle (R262). -/
theorem runSeq_cycleRead {n : Nat} {s : State} {d : CycleData} (hb : s.busy = true) (hi : s.inputs = [])
    (hs : s.sessionOpen = true) (hq : s.seq = .cycle) (he : s.eeValid = true) (h : CycleAnswers s 0 d)
    (hp : plausible s.params.fpFormat (taFormula s.params s.ee d.ptat) = true) :
    runSeq (n + 14) s = runSeq n (cycleRead s d) := by
  let s2 : State := { cycleChecked s d.cfgL d.cfgM with seq := .op .ptatRead (.ambientPtat .cycle) }
  let s3 : State := { ambientDone s2 d.ptat0 d.ptat1 with seq := .op .cpRead .cycleCp }
  let s4 : State := { s3 with
    cp := d.cp
    cpValid := true
    answers := s.answers.drop 3
    reqCount := s.reqCount + 3
    trace := .busWriteRead [0x02#8, 0x91#8, 0x00#8, 0x01#8] 2 (some [d.cp0, d.cp1]) :: .busSetAddr 0x60#7 :: s3.trace
    seq := .op .irRead .cycleIr }
  have hflag : porFlag s.params d.cfgM = false := by simpa [porFlag] using h.clear
  have h2 : runSeq (n + 14) s = runSeq (n + 10) s2 := by
    rw [runSeq_check hb hi hs hq h.check, hflag]
    rfl
  have h3 : runSeq (n + 10) s2 = runSeq (n + 6) s3 :=
    runSeq_ambient (s := s2) (a := .cycle) hb hi hs rfl he
      (busAnswer_of_answerAt h.ptat (by simp [s2, cycleChecked, sent]) rfl) hp
  have h4 : runSeq (n + 6) s3 = runSeq (n + 3) s4 := by
    refine runSeq_op_to .cpRead .cycleCp (some [d.cp0, d.cp1]) hb hi hs rfl
      (busAnswer_of_answerAt h.cp (by simp [s3, s2, cycleChecked, ambientDone, sent, tail_tail]) rfl) ?_
    simp [s4, s3, s2, cycleChecked, ambientDone, deliver, BusOp.result, commitAnswer, sent, BusOp.event, BusOp.respLen,
      BusOp.target, BusOp.bytes, encode, BusOp.frame, respByte, CycleData.cp, le16, tail_tail]
  have h5 : runSeq (n + 3) s4 = runSeq n (cycleRead s d) := by
    refine runSeq_op_to .irRead .cycleIr (some d.ir) hb hi hs rfl (busAnswer_of_answerAt h.ir rfl rfl) ?_
    simp [cycleRead, s4, s3, s2, cycleChecked, ambientDone, deliver, BusOp.result, commitAnswer, sent, BusOp.event,
      BusOp.respLen, BusOp.target, BusOp.bytes, encode, BusOp.frame, tail_tail, CycleData.ptat]
    rfl
  rw [h2, h3, h4, h5]

/-- One whole cycle of RUN (R262). -/
theorem runSeq_cycle {n : Nat} {s : State} {d : CycleData} (hb : s.busy = true) (hi : s.inputs = [])
    (hs : s.sessionOpen = true) (hq : s.seq = .cycle) (he : s.eeValid = true) (h : CycleAnswers s 0 d)
    (hp : plausible s.params.fpFormat (taFormula s.params s.ee d.ptat) = true) :
    CycleLeaves s d (runSeq (n + 16) s) := by
  have hl := busAnswer_length h.ir
  rw [runSeq_cycleRead (n := n + 2) hb hi hs hq he h hp, runSeq_cycleFrame (s := cycleRead s d) hb hi rfl he rfl rfl rfl]
  have hee : (cycleRead s d).ee = s.ee := by
    funext a
    have ha := a.isLt
    show (s.mem.writeBlock irBase d.ir).read _ = _
    rw [Memory.read_writeBlock, irBase, hl, eeBase, if_neg (by omega)]
    rfl
  have hir : ∀ x < 64, (cycleRead s d).ir x = rawOf d.ir x := ir_writeBlock (s := s) hl rfl
  have hf := holdsFrame_commitFrame (s := cycleRead s d) (t := cycleEnded (cycleRead s d)) rfl rfl rfl
  have hm := frameMemFrame_commitFrame (cycleRead s d)
  have hx : ∀ l < 64, pixelOf (cycleRead s d).params (cycleRead s d).ee (cycleRead s d).ta (cycleRead s d).cp
      (cycleRead s d).ir l = pixelOf s.params s.ee (taFormula s.params s.ee d.ptat) d.cp (rawOf d.ir) l := by
    intro l hl
    unfold pixelOf
    rw [hee, hir (rawIndex l) (by simp [rawIndex]; omega)]
    rfl
  refine ⟨(commitFrame (cycleRead s d).frame (cycleRead s d)).frameBytes, rfl, ⟨fun l hl => ?_, fun l hl => ?_, ?_,
    hf.length, hf.bytes⟩, fun x hx => ?_, fun a h1 h2 => ?_⟩
  · rw [hf.temp l hl, hx l hl]
  · rw [hf.enc l hl, hx l hl]
  · rw [hf.clamped]
    exact exists_congr fun l => and_congr_right fun hl => by rw [hx l hl]
  · rw [← hir x hx]
    simp only [State.ir, Memory.read16]
    rw [show (cycleEnded (cycleRead s d)).mem = (commitFrame (cycleRead s d).frame (cycleRead s d)).mem from rfl,
      hm _ (by simp [irBase]; omega) (by simp [irBase]; omega), hm _ (by simp [irBase]; omega) (by simp [irBase]; omega)]
  · rw [show (cycleEnded (cycleRead s d)).mem = (commitFrame (cycleRead s d).frame (cycleRead s d)).mem from rfl,
      hm a (by omega) h2]
    show (s.mem.writeBlock irBase d.ir).read a = _
    rw [Memory.read_writeBlock, irBase, hl, if_neg (by omega)]

end Sys2Proof.Machine
end

