-- ==== Sys2Proof/Laws/Encoding.lean ====
section
/-! SUPPORT. The fields of an encoded command word, and a word from its bytes. -/

namespace Sys2Proof

@[simp] theorem opField_commandWord (op a b : Byte) : opField (commandWord op a b) = op := by
  apply BitVec.eq_of_getLsbD_eq
  intro i hi
  simp only [opField, commandWord, BitVec.getLsbD_extractLsb', BitVec.getLsbD_append]
  simp [hi]

@[simp] theorem aField_commandWord (op a b : Byte) : aField (commandWord op a b) = a := by
  apply BitVec.eq_of_getLsbD_eq
  intro i hi
  simp only [aField, commandWord, BitVec.getLsbD_extractLsb', BitVec.getLsbD_append]
  simp [hi]

@[simp] theorem bField_commandWord (op a b : Byte) : bField (commandWord op a b) = b := by
  apply BitVec.eq_of_getLsbD_eq
  intro i hi
  simp only [bField, commandWord, BitVec.getLsbD_extractLsb', BitVec.getLsbD_append]
  simp [hi, show ¬ 16 + i < 8 by omega, show ¬ 16 + i - 8 < 8 by omega, show 16 + i - 8 - 8 = i by omega]

@[simp] theorem rsvdField_commandWord (op a b : Byte) : rsvdField (commandWord op a b) = 0#8 := by
  apply BitVec.eq_of_getLsbD_eq
  intro i hi
  simp only [rsvdField, commandWord, BitVec.getLsbD_extractLsb', BitVec.getLsbD_append]
  simp [hi, show ¬ 24 + i < 8 by omega, show ¬ 24 + i - 8 < 8 by omega, show ¬ 24 + i - 8 - 8 < 8 by omega]

@[simp] theorem arg16Field_commandWord (op a b : Byte) : arg16Field (commandWord op a b) = b ++ a := by
  apply BitVec.eq_of_getLsbD_eq
  intro i hi
  simp only [arg16Field, commandWord, BitVec.getLsbD_extractLsb', BitVec.getLsbD_append]
  by_cases h : i < 8
  · simp [hi, h]
  · simp [hi, h, show ¬ 8 + i < 8 by omega, show i - 8 < 8 by omega]

/-- A write frame is well-formed exactly when its bytes are well-framed (R130). -/
theorem wellFramed_trimWrite (c v : Byte) : wellFramed (encode (.trimWrite c v)) = (Instr.trimWrite c v).wellFormed := by
  simp [encode, wellFramed, Instr.wellFormed, chk]

theorem wellFramed_cfgWrite (c l d m : Byte) :
    wellFramed (encode (.cfgWrite c l d m)) = (Instr.cfgWrite c l d m).wellFormed := by
  simp [encode, wellFramed, Instr.wellFormed, chk]

/-- A word is its four bytes, most significant first. -/
theorem word_of_bytes (w : Word) :
    w.extractLsb' 24 8 ++ w.extractLsb' 16 8 ++ w.extractLsb' 8 8 ++ w.extractLsb' 0 8 = w := by
  apply BitVec.eq_of_getLsbD_eq
  intro i hi
  simp only [BitVec.getLsbD_append, BitVec.getLsbD_extractLsb']
  by_cases h1 : i < 8
  · simp [h1]
  · by_cases h2 : i < 16
    · simp [h1, show i - 8 < 8 by omega, show 8 + (i - 8) = i by omega]
    · by_cases h3 : i < 24
      · simp [h1, show ¬ i - 8 < 8 by omega, show i - 8 - 8 < 8 by omega, show 16 + (i - 8 - 8) = i by omega]
      · simp [h1, show ¬ i - 8 < 8 by omega, show ¬ i - 8 - 8 < 8 by omega, show i - 8 - 8 - 8 < 8 by omega,
          show 24 + (i - 8 - 8 - 8) = i by omega]

end Sys2Proof
end

