-- ==== Sys2Proof/Laws/Loop.lean ====
section
/-! SUPPORT. What reaching a position of RUN means for the run of moves, said once: the answer is a run from that position
(R257 to R269). -/

namespace Sys2Proof.Machine

/-! ### The moves that a position of RUN still takes -/

/-- More moves than a position of RUN takes to its next pause or to the end (log 3). -/
def movesLeft : Seq → Nat
  | .initPhase => 47
  | .openSession _ => 46
  | .initDone .initPhase => 21
  | .initDone _ => 17
  | .op _ (.ambientPtat .initPhase) => 20
  | .cycle => 16
  | .op _ (.ambientPtat .cycle) => 12
  | .op _ .cycleCp => 8
  | .op _ .cycleIr => 5
  | .faultedPhase => 2
  | .ambientRetry _ => 2
  | _ => 0

theorem movesLeft_le (q : Seq) : movesLeft q ≤ 47 := by
  unfold movesLeft
  split <;> omega

/-- Whether a position of RUN comes before its session is open. -/
def Seq.opensSession : Seq → Bool
  | .initPhase => true
  | .openSession _ => true
  | _ => false

/-- RUN is busy with nothing due at the position `q` in the state `u`, and `r` is its run from there. -/
structure Reached (q : Seq) (u : State) (r : Answered) : Prop where
  busy     : u.busy = true
  inputs   : u.inputs = []
  session  : q.opensSession = false → u.sessionOpen = true ∧ u.busPort = none
  answered : ∃ n, movesLeft q ≤ n ∧ r = .next (runSeq n { u with seq := q })

/-- Some moves on. -/
theorem Reached.moves {q q' : Seq} {u u' : State} {r : Answered} (k : Nat) (h : Reached q u r)
    (hk : movesLeft q' + k ≤ movesLeft q) (hb : u'.busy = true) (hi : u'.inputs = [])
    (hs : q'.opensSession = false → u'.sessionOpen = true ∧ u'.busPort = none)
    (hm : ∀ n, runSeq (n + k) { u with seq := q } = runSeq n { u' with seq := q' }) : Reached q' u' r := by
  obtain ⟨n, hn, hr⟩ := h.answered
  refine ⟨hb, hi, hs, n - k, by omega, ?_⟩
  rw [← hm, hr, Nat.sub_add_cancel (by omega)]

/-- One move on, that keeps the session. -/
theorem Reached.move {q q' : Seq} {u u' : State} {r : Answered} (h : Reached q u r)
    (hk : movesLeft q' + 1 ≤ movesLeft q) (hq : q.isPause = false) (hb : u'.busy = u.busy) (hi : u'.inputs = u.inputs)
    (hs : q'.opensSession = false → u'.sessionOpen = true ∧ u'.busPort = none)
    (hm : seqStep { u with seq := q } = { u' with seq := q' }) : Reached q' u' r :=
  h.moves 1 hk (hb.trans h.busy) (hi.trans h.inputs) hs fun _ => runSeq_to h.busy h.inputs hq hm

/-- One protocol operation on. -/
theorem Reached.op {q' : Seq} {u u' : State} {r : Answered} {o : BusOp} {k : Cont} {x : Option (List Byte)}
    (h : Reached (.op o k) u r) (hk : movesLeft q' + 3 ≤ movesLeft (.op o k)) (ha : u.busAnswer o.respLen = x)
    (hb : u'.busy = u.busy) (hi : u'.inputs = u.inputs) (hs : u'.sessionOpen = u.sessionOpen) (hp : u'.busPort = none)
    (hm : deliver (o.result x) k (commitAnswer o x (sent o.target (o.event x) { u with seq := .op o k })) =
      { u' with seq := q' }) : Reached q' u' r := by
  have ho := (h.session rfl).1
  refine h.moves 3 hk (hb.trans h.busy) (hi.trans h.inputs) (fun _ => ⟨hs.trans ho, hp⟩) fun _ => ?_
  exact runSeq_op_to o k x (by exact h.busy) (by exact h.inputs) (by exact ho) rfl (by exact ha) hm

/-- One protocol operation and the move after it. -/
theorem Reached.op_move {q' : Seq} {u u' : State} {r : Answered} {o : BusOp} {k : Cont} {x : Option (List Byte)}
    (h : Reached (.op o k) u r) (hk : movesLeft q' + 4 ≤ movesLeft (.op o k)) (ha : u.busAnswer o.respLen = x)
    (hb : u'.busy = u.busy) (hi : u'.inputs = u.inputs) (hs : u'.sessionOpen = u.sessionOpen) (hp : u'.busPort = none)
    (hq : (deliver (o.result x) k (commitAnswer o x (sent o.target (o.event x) { u with seq := .op o k }))).seq.isPause =
      false)
    (hm : seqStep (deliver (o.result x) k (commitAnswer o x (sent o.target (o.event x) { u with seq := .op o k }))) =
      { u' with seq := q' }) : Reached q' u' r := by
  have ho := (h.session rfl).1
  refine h.moves 4 hk (hb.trans h.busy) (hi.trans h.inputs) (fun _ => ⟨hs.trans ho, hp⟩) fun _ => ?_
  exact runSeq_op_move o k x (by exact h.busy) (by exact h.inputs) (by exact ho) rfl (by exact ha) hq hm

/-! ### A step of RUN -/

/-- A step that begins at a position of RUN outside a pause. -/
theorem reached_here {s : State} {q : Seq} (h : s.RunsAt q) (hq : q.isPause = false) : Reached q s (step s) := by
  have hs : ({ s with seq := q } : State) = s := by rw [← h.seq]
  refine ⟨h.busy, h.inputs, fun _ => ⟨h.session, h.port⟩, runFuel + 1,
    (movesLeft_le q).trans (by simp [runFuel]), ?_⟩
  rw [hs, step_runsAt h, runSeq_to h.busy h.inputs (by rw [h.seq]; exact hq) rfl]

/-- A step that begins at the end of a pause, no termination being requested. -/
theorem reached_pause {s u : State} {p : Pause} {q : Seq} (h : s.RunsAt (.pause p))
    (hu : afterPause p s = { u with seq := q }) (hb : u.busy = s.busy) (hi : u.inputs = s.inputs)
    (hs : u.sessionOpen = s.sessionOpen) (hp : u.busPort = s.busPort) : Reached q u (step s) := by
  refine ⟨hb.trans h.busy, hi.trans h.inputs, fun _ => ⟨hs.trans h.session, hp.trans h.port⟩, runFuel,
    (movesLeft_le q).trans (by simp [runFuel]), ?_⟩
  rw [step_pause h, hu]

/-- The acceptance of RUN (R256). -/
theorem reached_run {s : State} (h : s.quiet) : Reached .initPhase { s with
    cmd := 0x0000000F#32
    curOp := some 0x0F#8
    busy := true
    lastCause := .none
    ownCause := .none
    loopState := .initializing
    retryCnt := 0 } (exec .run s) := by
  refine ⟨rfl, h.2, nofun, runFuel, by simp [movesLeft, runFuel], ?_⟩
  rw [exec_accept (i := .run) rfl h.1]
  simp only [accept, beforeAccept, if_true, startRun, h.1]
  rfl

/-! ### The phases -/

/-- Where RUN reaches a position, its answer is a run from there. -/
theorem reached {q : Seq} {u : State} {r : Answered} (h : Reaches q u r) : Reached q u r := by
  induction h with
  | here h hq => exact reached_here h hq
  | run h => exact reached_run h
  | ambEnds h ht => exact reached_pause h (by simp [afterPause, ht]) rfl rfl rfl rfl
  | porEnds h ht => exact reached_pause h (by simp [afterPause, ht]) rfl rfl rfl rfl
  | cycleEnds h ht => exact reached_pause h (by simp [afterPause, ht]) rfl rfl rfl rfl
  | initSeq h ih => exact ih.move (by decide) rfl rfl rfl nofun rfl
  | @initDone u r i e q v h ha ih =>
    obtain ⟨k, hk, hm⟩ := runSeq_initDone (s := { u with seq := .openSession (.initSeq i) }) (i := i) ih.busy ih.inputs
      rfl ⟨ha.eeprom, ha.trim, ha.config, by cases q <;> exact ha.rate, ha.verify⟩
    exact ih.moves k (by cases i <;> simp [movesLeft] <;> omega) ih.busy ih.inputs (fun _ => ⟨rfl, rfl⟩) fun n => hm n
  | @initFaulted u r i h hi hf ih =>
    cases i with
    | init => exact absurd rfl hi
    | initPhase => exact ih.move (by decide) rfl rfl rfl ih.session (by simp [seqStep, afterInit, hf])
    | faultedPhase => exact ih.move (by decide) rfl rfl rfl ih.session (by simp [seqStep, afterInit, hf])
  | initAmbient h hf ih => exact ih.move (by decide) rfl rfl rfl ih.session (by simp [seqStep, afterInit, hf])
  | initRecovered h hf ih => exact ih.move (by decide) rfl rfl rfl ih.session (by simp [seqStep, afterInit, hf])
  | @initPasses u r p0 p1 h he ha ih =>
    obtain ⟨ho, -⟩ := ih.session rfl
    exact ih.moves 4 (by decide) ih.busy ih.inputs (fun _ => ⟨ho, rfl⟩) fun _ =>
      runSeq_ambient (a := .initPhase) ih.busy ih.inputs ho rfl he ha.1 ha.2
  | @cyclePasses u r p0 p1 h he ha ih =>
    obtain ⟨ho, -⟩ := ih.session rfl
    exact ih.moves 4 (by decide) ih.busy ih.inputs (fun _ => ⟨ho, rfl⟩) fun _ =>
      runSeq_ambient (a := .cycle) ih.busy ih.inputs ho rfl he ha.1 ha.2
  | @ambientFails u r a f h he ha ih =>
    cases f with
    | read =>
      refine ih.op (by cases a <;> decide) ha rfl rfl rfl rfl ?_
      simp [deliver, commitAnswer, sent, BusOp.result, BusOp.event, BusOp.respLen, BusOp.target, BusOp.bytes, encode,
        BusOp.frame, AmbientFailure.leaves, AmbientFailure.cause, BusOp.failCause]
    | implausible p0 p1 =>
      obtain ⟨ho, -⟩ := ih.session rfl
      exact ih.moves 4 (by cases a <;> simp [movesLeft]) ih.busy ih.inputs (fun _ => ⟨ho, rfl⟩)
        fun _ => runSeq_ambientStep (a := a) ih.busy ih.inputs ho rfl he ha.1 ha.2
  | @checkClear u r l m h ha hf ih =>
    obtain ⟨ho, -⟩ := ih.session rfl
    refine ih.moves 4 (by simp [movesLeft]) ih.busy ih.inputs (fun _ => ⟨ho, rfl⟩) fun _ => ?_
    have hp : porFlag u.params m = false := by simpa [porFlag] using hf
    rw [runSeq_check (s := { u with seq := .cycle }) ih.busy ih.inputs ho rfl ha, hp]
    rfl
  | @checkSet u r l m h ha hf ih =>
    obtain ⟨ho, -⟩ := ih.session rfl
    refine ih.moves 4 (by simp [movesLeft]) ih.busy ih.inputs (fun _ => ⟨ho, rfl⟩) fun _ => ?_
    have hp : porFlag u.params m = true := by simpa [porFlag] using hf
    rw [runSeq_check (s := { u with seq := .cycle }) ih.busy ih.inputs ho rfl ha, hp]
    rfl
  | checkFails h ha ih =>
    obtain ⟨ho, -⟩ := ih.session rfl
    exact ih.moves 5 (by simp [movesLeft]) ih.busy ih.inputs (fun _ => ⟨ho, rfl⟩) fun _ =>
      runSeq_checkFails ih.busy ih.inputs ho rfl ha
  | cpRead h ha ih =>
    refine ih.op (by decide) ha rfl rfl rfl rfl ?_
    simp [deliver, commitAnswer, sent, BusOp.result, BusOp.event, BusOp.respLen, BusOp.target, BusOp.bytes, encode,
      BusOp.frame, cpDone, respByte, le16]
  | cpFails h ha ih =>
    refine ih.op (by decide) ha rfl rfl rfl rfl ?_
    simp [deliver, commitAnswer, sent, BusOp.result, BusOp.event, BusOp.respLen, BusOp.target, BusOp.bytes, encode,
      BusOp.frame, cpFailed, BusOp.failCause]

/-! ### Where the phases lead -/

/-- A run long enough from a position of RUN is the answer there. -/
theorem Reached.eq {q : Seq} {u : State} {r : Answered} (h : Reached q u r) {k : Nat} {t : State}
    (hk : k ≤ movesLeft q) (ht : ∀ n, runSeq (n + k) { u with seq := q } = t) : r = .next t := by
  obtain ⟨n, hn, hr⟩ := h.answered
  rw [hr, ← ht (n - k), Nat.sub_add_cancel (by omega)]

end Sys2Proof.Machine
end

