-- ==== Sys2Proof/Laws/PerInstr.lean ====
section
/-! SUPPORT. One lemma per instruction. The family `FirstByte`: the encoding of an instruction opens with its row's
opcode and has its row's length (spec/30_encoding.md R92, R97). -/

namespace Sys2Proof.Laws

/-- The opcode byte of an instruction's row of spec/opcode_table.json. -/
def opcodeByte : Instr → Byte
  | .nop => 0x00#8
  | .sessionOpen => 0x01#8
  | .sessionClose => 0x02#8
  | .readEeprom => 0x03#8
  | .writeTrim _ => 0x04#8
  | .writeConfig _ _ => 0x05#8
  | .readConfig => 0x06#8
  | .readPtat => 0x07#8
  | .readCp => 0x08#8
  | .readIr => 0x09#8
  | .setRefreshRate _ => 0x0A#8
  | .checkPor => 0x0B#8
  | .computeTa => 0x0C#8
  | .computeFrame => 0x0D#8
  | .init => 0x0E#8
  | .run => 0x0F#8
  | .stop => 0x10#8
  | .eeDump => 0x00#8
  | .cfgRead => 0x02#8
  | .ptatRead => 0x02#8
  | .cpRead => 0x02#8
  | .irRead => 0x02#8
  | .trimWrite _ _ => 0x04#8
  | .cfgWrite _ _ _ _ => 0x03#8

/-- The length in bytes of an instruction's row. -/
def rowBytes : Instr → Nat
  | .nop => 4
  | .sessionOpen => 4
  | .sessionClose => 4
  | .readEeprom => 4
  | .writeTrim _ => 4
  | .writeConfig _ _ => 4
  | .readConfig => 4
  | .readPtat => 4
  | .readCp => 4
  | .readIr => 4
  | .setRefreshRate _ => 4
  | .checkPor => 4
  | .computeTa => 4
  | .computeFrame => 4
  | .init => 4
  | .run => 4
  | .stop => 4
  | .eeDump => 1
  | .cfgRead => 4
  | .ptatRead => 4
  | .cpRead => 4
  | .irRead => 4
  | .trimWrite _ _ => 5
  | .cfgWrite _ _ _ _ => 5

/-- The encoding opens with the row's opcode and has the row's length. -/
def FirstByte.Statement (i : Instr) : Prop :=
  (encode i).head? = some (opcodeByte i) ∧ (encode i).length = rowBytes i

theorem FirstByte.nop : FirstByte.Statement .nop := ⟨by decide, rfl⟩
theorem FirstByte.sessionOpen : FirstByte.Statement .sessionOpen := ⟨by decide, rfl⟩
theorem FirstByte.sessionClose : FirstByte.Statement .sessionClose := ⟨by decide, rfl⟩
theorem FirstByte.readEeprom : FirstByte.Statement .readEeprom := ⟨by decide, rfl⟩
theorem FirstByte.writeTrim (a : Byte) : FirstByte.Statement (.writeTrim a) :=
  ⟨congrArg some (opField_commandWord _ _ _), rfl⟩
theorem FirstByte.writeConfig (a : Byte) (b : Byte) : FirstByte.Statement (.writeConfig a b) :=
  ⟨congrArg some (opField_commandWord _ _ _), rfl⟩
theorem FirstByte.readConfig : FirstByte.Statement .readConfig := ⟨by decide, rfl⟩
theorem FirstByte.readPtat : FirstByte.Statement .readPtat := ⟨by decide, rfl⟩
theorem FirstByte.readCp : FirstByte.Statement .readCp := ⟨by decide, rfl⟩
theorem FirstByte.readIr : FirstByte.Statement .readIr := ⟨by decide, rfl⟩
theorem FirstByte.setRefreshRate (r : Half) : FirstByte.Statement (.setRefreshRate r) :=
  ⟨congrArg some (opField_commandWord _ _ _), rfl⟩
theorem FirstByte.checkPor : FirstByte.Statement .checkPor := ⟨by decide, rfl⟩
theorem FirstByte.computeTa : FirstByte.Statement .computeTa := ⟨by decide, rfl⟩
theorem FirstByte.computeFrame : FirstByte.Statement .computeFrame := ⟨by decide, rfl⟩
theorem FirstByte.init : FirstByte.Statement .init := ⟨by decide, rfl⟩
theorem FirstByte.run : FirstByte.Statement .run := ⟨by decide, rfl⟩
theorem FirstByte.stop : FirstByte.Statement .stop := ⟨by decide, rfl⟩
theorem FirstByte.eeDump : FirstByte.Statement .eeDump := ⟨by decide, rfl⟩
theorem FirstByte.cfgRead : FirstByte.Statement .cfgRead := ⟨by decide, rfl⟩
theorem FirstByte.ptatRead : FirstByte.Statement .ptatRead := ⟨by decide, rfl⟩
theorem FirstByte.cpRead : FirstByte.Statement .cpRead := ⟨by decide, rfl⟩
theorem FirstByte.irRead : FirstByte.Statement .irRead := ⟨by decide, rfl⟩
theorem FirstByte.trimWrite (c : Byte) (v : Byte) : FirstByte.Statement (.trimWrite c v) := ⟨rfl, rfl⟩
theorem FirstByte.cfgWrite (c : Byte) (l : Byte) (d : Byte) (m : Byte) : FirstByte.Statement (.cfgWrite c l d m) := ⟨rfl, rfl⟩

end Sys2Proof.Laws
end

