-- ==== Sys2Proof/Tests/Slice0.lean ====
section
/-! SUPPORT. Tests with expected values from spec/95_test_vectors.md or written out from the spec's encodings, and for
every statement with hypotheses one named state and operands that meet them. -/

namespace Sys2Proof.Tests

open Sys2Proof.Machine

/-! ### States -/

/-- A session is open, nothing executes; the oracle answers as given. -/
def opened (answers : List BusAnswer) : State :=
  { State.reset with
    sessionOpen := true
    busClk := some 25000
    answers := answers
    trace := [.wait .settle 5, .busSetClk 25000, .busBegin] }

/-- RUN executes at a position. -/
def running (q : Seq) (answers : List BusAnswer) : State :=
  { opened answers with busy := true, cmd := 0x0F#32, curOp := some 0x0F#8, seq := q }

/-- Image `S` (spec/95_test_vectors.md). -/
def imageS : List Byte :=
  ((List.range 64).map fun x => BitVec.ofNat 8 (0xEC + x % 7)) ++
  ((List.range 64).map fun x => BitVec.ofNat 8 (0x64 + x % 5)) ++
  ((List.range 64).map fun x => BitVec.ofNat 8 (0x64 + x)) ++ List.replicate 20 0x00#8 ++
  [0xE2#8, 0x14#8, 0x00#8, 0x08#8, 0x18#8, 0x08#8, 0x90#8, 0x1A#8, 0x00#8, 0x5A#8, 0x60#8, 0x54#8] ++
  [0x00#8, 0x5A#8, 0x29#8, 0x2C#8, 0xE1#8, 0x7A#8] ++ List.replicate 15 0x00#8 ++
  [0x3E#8, 0x74#8, 0x5A#8] ++ List.replicate 8 0x00#8

/-- Image `Z'` (spec/95_test_vectors.md). -/
def imageZ : List Byte :=
  List.replicate 0xDC 0x00#8 ++ [0x00#8, 0x5A#8, 0x00#8, 0x01#8, 0x00#8, 0x5A#8, 0x00#8, 0x00#8, 0x00#8, 0x80#8] ++
  List.replicate 15 0x00#8 ++ [0x3E#8, 0x70#8, 0x5A#8] ++ List.replicate 8 0x00#8

/-- An image of zeros. -/
def imageZero : List Byte := List.replicate 256 0x00#8

/-- All data valid, TA 25.0 over image `Z'`, every reading 0: the inputs of V-E2E-1. -/
def ready : State :=
  { State.reset with
    mem := Memory.writeBlock [] eeBase imageZ
    ta := 0x4039000000000000#64
    taShown := true
    eeValid := true
    taValid := true
    cpValid := true
    irValid := true }

/-- Some fact of the next state. -/
def after (o : Host.Outcome State Fault Refusal) (p : State → Bool) : Bool :=
  match o with
  | .next t => p t
  | _ => false

/-! ### WellFormed: each check refuses -/

theorem test_wellFormed_refuses_trim_check : (Instr.trimWrite 0x5A#8 0x5A#8).wellFormed = false := by decide
theorem test_wellFormed_refuses_cfg_lsb_check : (Instr.cfgWrite 0x3E#8 0x3E#8 0x1F#8 0x74#8).wellFormed = false := by decide
theorem test_wellFormed_refuses_cfg_msb_check : (Instr.cfgWrite 0xE9#8 0x3E#8 0x74#8 0x74#8).wellFormed = false := by decide
theorem test_wellFormed_accepts_V_CHK :
    (Instr.trimWrite 0xB0#8 0x5A#8).wellFormed = true ∧ (Instr.cfgWrite 0xE9#8 0x3E#8 0x1F#8 0x74#8).wellFormed = true := by
  decide

/-! ### Decode: every constructor, from the encodings of spec/30_encoding.md R92 and spec/41_bus_frames.md -/

theorem test_decode_nop : decodeCommand 0x00000000#32 = .ok .nop := by decide
theorem test_decode_sessionOpen : decodeCommand 0x00000001#32 = .ok .sessionOpen := by decide
theorem test_decode_sessionClose : decodeCommand 0x00000002#32 = .ok .sessionClose := by decide
theorem test_decode_readEeprom : decodeCommand 0x00000003#32 = .ok .readEeprom := by decide
theorem test_decode_writeTrim : decodeCommand 0x00005A04#32 = .ok (.writeTrim 0x5A#8) := by decide
theorem test_decode_writeConfig : decodeCommand 0x00743E05#32 = .ok (.writeConfig 0x3E#8 0x74#8) := by decide
theorem test_decode_readConfig : decodeCommand 0x00000006#32 = .ok .readConfig := by decide
theorem test_decode_readPtat : decodeCommand 0x00000007#32 = .ok .readPtat := by decide
theorem test_decode_readCp : decodeCommand 0x00000008#32 = .ok .readCp := by decide
theorem test_decode_readIr : decodeCommand 0x00000009#32 = .ok .readIr := by decide
theorem test_decode_setRefreshRate : decodeCommand 0x0002010A#32 = .ok (.setRefreshRate 0x0201#16) := by decide
theorem test_decode_checkPor : decodeCommand 0x0000000B#32 = .ok .checkPor := by decide
theorem test_decode_computeTa : decodeCommand 0x0000000C#32 = .ok .computeTa := by decide
theorem test_decode_computeFrame : decodeCommand 0x0000000D#32 = .ok .computeFrame := by decide
theorem test_decode_init : decodeCommand 0x0000000E#32 = .ok .init := by decide
theorem test_decode_run : decodeCommand 0x0000000F#32 = .ok .run := by decide
theorem test_decode_stop : decodeCommand 0x00000010#32 = .ok .stop := by decide
theorem test_decode_eeDump : decodeFrame [0x00#8] = .ok .eeDump := by decide
theorem test_decode_cfgRead : decodeFrame [0x02#8, 0x92#8, 0x00#8, 0x01#8] = .ok .cfgRead := by decide
theorem test_decode_ptatRead : decodeFrame [0x02#8, 0x90#8, 0x00#8, 0x01#8] = .ok .ptatRead := by decide
theorem test_decode_cpRead : decodeFrame [0x02#8, 0x91#8, 0x00#8, 0x01#8] = .ok .cpRead := by decide
theorem test_decode_irRead : decodeFrame [0x02#8, 0x00#8, 0x01#8, 0x40#8] = .ok .irRead := by decide
theorem test_decode_trimWrite : decodeFrame [0x04#8, 0xB0#8, 0x5A#8, 0x56#8, 0x00#8] = .ok (.trimWrite 0xB0#8 0x5A#8) := by decide
theorem test_decode_cfgWrite : decodeFrame [0x03#8, 0xE9#8, 0x3E#8, 0x1F#8, 0x74#8] = .ok (.cfgWrite 0xE9#8 0x3E#8 0x1F#8 0x74#8) := by decide

/-- The illegal words of V-DEC. -/
theorem test_decode_refuses_V_DEC :
    decodeCommand 0x00000011#32 = .error .reservedOpcode ∧ decodeCommand 0x000000FF#32 = .error .reservedOpcode ∧
    decodeCommand 0x01000001#32 = .error .reservedField ∧ decodeCommand 0x00000101#32 = .error .unusedField ∧
    decodeCommand 0x00015A04#32 = .error .unusedField ∧ decodeCommand 0x00FF5A04#32 = .error .unusedField ∧
    decodeCommand 0x0000010D#32 = .error .unusedField ∧ decodeCommand 0x00000110#32 = .error .unusedField := by decide

/-- Byte sequences that are no frame: a wrong length, another register, a fixed byte of TRIM_WRITE changed (R97, R99). -/
theorem test_decode_refuses_frames :
    decodeFrame [] = .error .frameOpcode ∧ decodeFrame [0x00#8, 0x00#8] = .error .frameLength ∧
    decodeFrame [0x02#8, 0x93#8, 0x00#8, 0x01#8] = .error .frameFields ∧
    decodeFrame [0x04#8, 0xB0#8, 0x5A#8, 0x57#8, 0x00#8] = .error .frameFields ∧ decodeFrame [0x01#8] = .error .frameOpcode := by
  decide

/-- The rows of spec/opcode_table.json with operands, and the fixed frames, by their table numbers. -/
theorem test_decodeTableWord :
    decodeTableWord 32 0x00000010 = some .stop ∧ decodeTableWord 32 0x00743E05 = some (.writeConfig 0x3E#8 0x74#8) ∧
    decodeTableWord 8 0x00 = some .eeDump ∧ decodeTableWord 32 0x02920001 = some .cfgRead ∧
    decodeTableWord 32 0x02000140 = some .irRead ∧
    decodeTableWord 40 0x04B05A5600 = some (.trimWrite 0xB0#8 0x5A#8) ∧
    decodeTableWord 40 0x03E93E1F74 = some (.cfgWrite 0xE9#8 0x3E#8 0x1F#8 0x74#8) := by decide

/-- R130 is a rule on raw byte sequences: other fixed bytes with their own check are well-framed, a check of another
subtrahend is not. -/
theorem test_wellFramed :
    wellFramed [0x04#8, 0xB0#8, 0x5A#8, 0x57#8, 0x01#8] = true ∧
    wellFramed [0x04#8, 0x5A#8, 0x5A#8, 0x56#8, 0x00#8] = false ∧
    wellFramed [0x03#8, 0xE9#8, 0x3E#8, 0x1F#8, 0x74#8] = true ∧
    wellFramed [0x03#8, 0xE9#8, 0x3E#8, 0xCA#8, 0x74#8] = false := by decide

/-! ### One instruction each -/

/-- P1, line 1: READ_PTAT with no session. -/
theorem test_readPtat_closed :
    after (exec .readPtat State.reset) (fun t => t.lastCause == .sessionClosed && t.event == 0b00011#5 && t.trace.isEmpty) =
      true := by decide

/-- V-RD: PTAT is 4000. -/
theorem test_readPtat_value :
    after (exec .readPtat (opened [.ok [0xA0#8, 0x0F#8]])) (fun t => t.ptat == 4000#16 && t.ptatValid) = true := by
  decide

/-- V-SES: SESSION_OPEN from reset. -/
theorem test_sessionOpen :
    after (exec .sessionOpen State.reset)
      (fun t => t.trace.reverse == [.busBegin, .busSetClk 25000, .wait .settle 5] && t.busAddr == 0#7) = true := by
  decide

/-- V-CHK: the frame of WRITE_CONFIG 0x3E, 0x74. -/
theorem test_writeConfig_frame :
    after (exec (.writeConfig 0x3E#8 0x74#8) (opened [.ok []]))
      (fun t => t.trace.head? == some (.busWrite [0x03#8, 0xE9#8, 0x3E#8, 0x1F#8, 0x74#8] true) && !t.cfgValid) = true := by
  decide

/-- P1, line 7: the write of SET_REFRESH_RATE 4 Hz over LSB 0x3E, and its code. -/
theorem test_setRefreshRate :
    after (exec (.setRefreshRate 8#16) (opened [.ok [0x3E#8, 0x74#8], .ok []]))
      (fun t => t.trace.head? == some (.busWrite [0x03#8, 0xE7#8, 0x3C#8, 0x1F#8, 0x74#8] true) && t.rateCode == 0xC#4) =
      true := by decide

/-- P2, line 1: COMPUTE_FRAME with TA not valid: no bus event, DATA_NOT_VALID. -/
theorem test_computeFrame_precondition :
    after (exec .computeFrame { ready with taValid := false })
      (fun t => t.lastCause == .dataNotValid && t.event == 0b00011#5 && t.trace.isEmpty) = true := by decide

/-- V-E2E-1: a completed COMPUTE_FRAME counts the frame; V-CNT: modulo 2^32. -/
theorem test_computeFrame_counts :
    after (exec .computeFrame { ready with frameCount := 0xFFFFFFFF#32 })
      (fun t => t.frameCount == 0#32 && t.frameValid) = true := by decide

/-- V-E2E-1: a pixel of the frame is TA, encoded 29815. -/
theorem test_V_E2E_1 :
    pixelOf {} (imageOf imageZ) 0x4039000000000000#64 0#16 (fun _ => 0#16) 63 = 0x4039000000000000#64 := by decide +kernel

/-- V-SES: STOP with a session open and nothing executing. -/
theorem test_stop_idle :
    after (exec .stop (opened [])) (fun t => t.trace.head? == some .busEnd && t.statusWord == 0x000A0008#32 &&
      t.event == 0b00001#5) = true := by decide

/-- R296, R297: a word rejected while a command runs shows its cause until the command's `end` writes LAST_CAUSE again,
here the POWER_ON_RESET that CHECK_POR gave it. -/
theorem test_end_writes_lastCause :
    after (step { running .finish [] with
        lastCause := .powerOnReset, ownCause := .powerOnReset, inputs := [.hostWrite 4 0x000#12 0#32, .advance] })
      (fun t => t.lastCause == .commandWhileBusy &&
        after (step t) (fun u => u.lastCause == .powerOnReset && u.event == 0b00011#5 && !u.busy)) = true := by decide

/-- R76, R273: a host read falls between a command's end and the shutdown that a STOP asked for: it shows the command
ended, TERM_REQ set and the session open. -/
theorem test_stop_deferred_gap :
    after (step { opened [] with eeValid := true, termReq := true, inputs := [.hostRead 4 0x004#12, .advance] })
      (fun t => t.hostData == 0x00001030#32 && after (step t) (fun u => u.statusWord == 0x000A0028#32)) = true := by
  decide

/-- R77, R330: a reset falls between `BusSetAddr` and its request: the trace has the one and not the other. -/
theorem test_reset_between_address_and_request :
    after (step { running (.op .cpRead .cycleCp) [] with inputs := [.advance, .reset] })
      (fun t => t.busPort == none &&
        after (step t) (fun u => u.trace.take 3 == [.blockReset, .busSetAddr 0x60#7, .wait .settle 5])) = true := by
  decide

/-- R330, U24: a reset with a request at the transport. -/
theorem test_reset_cuts_request :
    after (step { running (.bus .cpRead .cycleCp) [] with inputs := [.reset] })
      (fun t => t.trace.take 2 == [.blockReset, .busCut [0x02#8, 0x91#8, 0x00#8, 0x01#8]] && t.seq == .idle) = true := by
  decide

/-- A frame on the bus port, sent with no operation waiting for it. -/
theorem test_withFetchWord_frame :
    after (step (State.reset.withFetchWord 40 0x04B05A5600))
      (fun t => t.trace.drop 1 == [.busSetAddr 0x60#7] && t.busPort == none) = true := by decide

/-- A command word as the first instruction after reset. -/
theorem test_withFetchWord_command :
    after (step (State.reset.withFetchWord 32 0x00000002)) (fun t => t.cmd == 2#32 && t.event == 0b00001#5) = true := by
  decide

/-! ### Witnesses: a state and operands that meet the hypotheses of each statement -/

theorem answer_imageS : fitResponse 0 256 imageS = imageS := by
  have h := fitResponse_of_length 0 imageS
  rwa [show imageS.length = 256 by decide +kernel] at h

theorem answer_imageZ : fitResponse 0 256 imageZ = imageZ := by
  have h := fitResponse_of_length 0 imageZ
  rwa [show imageZ.length = 256 by decide +kernel] at h

theorem answer_imageZero : fitResponse 0 256 imageZero = imageZero := by
  have h := fitResponse_of_length 0 imageZero
  rwa [show imageZero.length = 256 by decide +kernel] at h

theorem witness_EncodeOfDecode :
    decode .hostCmd [0x04#8, 0xFF#8, 0x00#8, 0x00#8] = .ok (.writeTrim 0xFF#8) ∧
    decode .busFrame [0x03#8, 0x00#8, 0xFF#8, 0x00#8, 0xFF#8] = .ok (.cfgWrite 0x00#8 0xFF#8 0x00#8 0xFF#8) := by decide

/-- The boundary operands of each clause. -/
theorem witness_AssemblerWords :
    assemble "WRITE_TRIM" [255] = some (.writeTrim 255#8) ∧
    assemble "WRITE_CONFIG" [0, 255] = some (.writeConfig 0#8 255#8) ∧
    assemble "SET_REFRESH_RATE" [65535 / 2] = some (.setRefreshRate 65535#16) ∧
    assemble "SET_REFRESH_RATE" [32768] = none ∧ assemble "SET_REFRESH_RATE" [1 / 4] = none := by decide +kernel

theorem witness_StepRunsSubmittedCommand :
    ({ State.reset with inputs := [.hostWrite 4 0x000#12 0x10#32] } : State).inputs = [.hostWrite 4 0x000#12 0x10#32] ∧
    decodeCommand 0x00000010#32 = .ok .stop := by decide

theorem witness_StepRunsFrameOnPort :
    ({ State.reset with busPort := some [0x00#8] } : State).stopDeferred = false ∧ decodeFrame [0x00#8] = .ok .eeDump := by
  decide

/-- Illegal while idle; legal but not STOP while busy; illegal with STOP's opcode while busy; a command at its end. -/
theorem witness_WordRejected :
    (∀ i, decodeCommand 0x00000011#32 ≠ .ok i) ∧ (∀ i, decodeCommand 0x00000110#32 ≠ .ok i) ∧
    (running (.pause .cycle) []).busy = true ∧ opField 0x00000003#32 ≠ 0x10#8 ∧
    (running .finish []).busy = true ∧ (running .finish []).inputs = [] ∧ (running .finish []).busPort = none := by
  refine ⟨fun i h => ?_, fun i h => ?_, by decide, by decide, rfl, rfl, rfl⟩
  · rw [show decodeCommand 0x00000011#32 = .error .reservedOpcode from by decide] at h; cases h
  · rw [show decodeCommand 0x00000110#32 = .error .unusedField from by decide] at h; cases h

theorem witness_CommandAccepted :
    State.reset.busy = false ∧ Input.hostRead 4 0x004#12 ≠ .advance ∧ runsCommand .run = true ∧ runsCommand .nop = true := by
  decide

/-- The clauses: idle with nothing due; busy; idle with a word due that will be rejected. -/
theorem witness_NopCompletes :
    State.reset.quiet ∧ (running (.pause .amb) []).busy = true ∧
    (let s := { State.reset with inputs := [.hostWrite 4 0x000#12 0#32] }
     s.busy = false ∧ s.inputs = [.hostWrite 4 0x000#12 0#32] ∧ s.busPort = none ∧ opField 0#32 ≠ 0x10#8) := by decide

/-- Every clause: no session, and a session open. -/
theorem witness_SessionCommandsComplete :
    State.reset.quiet ∧ State.reset.sessionOpen = false ∧ (opened []).quiet ∧ (opened []).sessionOpen = true := by decide

/-- The three clauses of the protocol commands: no session, FAIL, OK. -/
theorem witness_ReadEepromCompletes :
    State.reset.quiet ∧ State.reset.sessionOpen = false ∧ (opened [.fail]).quiet ∧ (opened [.fail]).sessionOpen = true ∧
    (opened [.fail]).busAnswer 256 = none ∧ (opened [.ok imageS]).busAnswer 256 = some imageS :=
  ⟨⟨rfl, rfl⟩, rfl, ⟨rfl, rfl⟩, rfl, rfl, congrArg some answer_imageS⟩

theorem witness_WriteTrimCompletes :
    (opened [.fail]).quiet ∧ (opened [.fail]).busAnswer 0 = none ∧ (opened [.ok []]).busAnswer 0 = some [] := by decide

theorem witness_WriteConfigCompletes :
    (opened [.ok []]).quiet ∧ (opened [.fail]).busAnswer 0 = none ∧ (opened [.ok []]).busAnswer 0 = some [] := by decide

theorem witness_ReadConfigCompletes :
    (opened [.fail]).quiet ∧ (opened [.fail]).busAnswer 2 = none ∧
    (opened [.ok [0x3E#8, 0x74#8]]).busAnswer 2 = some [0x3E#8, 0x74#8] := by decide

theorem witness_ReadPtatAndCpComplete :
    State.reset.quiet ∧ State.reset.sessionOpen = false ∧ (opened [.fail]).quiet ∧ (opened [.fail]).busAnswer 2 = none ∧
    (opened [.ok [0xE6#8, 0xFF#8]]).busAnswer 2 = some [0xE6#8, 0xFF#8] := by decide

theorem witness_PipelineStages : (0 : Nat) < 64 ∧ (63 : Nat) < 64 := by decide

theorem witness_ReadIrCompletes :
    (opened [.fail]).quiet ∧ (opened [.fail]).busAnswer 128 = none ∧
    (opened [.ok (List.replicate 128 0#8)]).busAnswer 128 = some (List.replicate 128 0#8) :=
  ⟨⟨rfl, rfl⟩, rfl, congrArg some (fitResponse_of_length 0 (List.replicate 128 0#8))⟩

/-- The configuration read answers, and the write fails or answers. -/
theorem witness_SetRefreshRateCompletes :
    (opened [.ok [0x3E#8, 0x74#8], .fail]).quiet ∧
    (opened [.ok [0x3E#8, 0x74#8], .fail]).busAnswer 2 = some [0x3E#8, 0x74#8] ∧
    (opened [.ok [0x3E#8, 0x74#8], .fail]).answerAt 1 0 = none ∧
    (opened [.ok [0x3E#8, 0x74#8], .ok []]).answerAt 1 0 = some [] := by decide

/-- The flag clear and the flag set. -/
theorem witness_CheckPorCompletes :
    (opened [.ok [0x3C#8, 0x74#8]]).quiet ∧
    (opened [.ok [0x3C#8, 0x74#8]]).busAnswer 2 = some [0x3C#8, 0x74#8] ∧
    (0x74#8 : Byte).getLsbD 2 = State.reset.params.porActiveLevel ∧
    (0xFB#8 : Byte).getLsbD 2 ≠ State.reset.params.porActiveLevel := by decide

/-- The order of the preconditions, and a plausible and an implausible image. -/
theorem witness_ComputeTaCompletes :
    State.reset.quiet ∧ State.reset.eeValid = false ∧
    ({ ready with ptatValid := true } : State).quiet ∧ ready.ptatValid = false ∧
    plausible .binary64 (taFormula ready.params ready.ee 0#16) = true ∧
    plausible .binary64 (taFormula State.reset.params State.reset.ee 0#16) = false := by decide +kernel

theorem witness_ComputeFrameCompletes :
    ready.quiet ∧ State.reset.eeValid = false ∧ ({ ready with taValid := false } : State).quiet ∧
    (ready.eeValid && ready.taValid && ready.cpValid && ready.irValid) = true := by decide

/-- Two states that differ outside what the frame is computed from. -/
theorem witness_FrameIsDeterministic :
    ready.quiet ∧ ({ ready with frameCount := 7#32, event := 1#5 } : State).quiet ∧
    (∀ a, ready.ee a = ({ ready with frameCount := 7#32, event := 1#5 } : State).ee a) ∧
    (∃ t, exec .computeFrame ready = .next t) ∧
    (∃ t, exec .computeFrame { ready with frameCount := 7#32, event := 1#5 } = .next t) :=
  ⟨by decide, by decide, fun _ => rfl, exec_next _ _, exec_next _ _⟩

/-- Not 0, below and above the overflow; 0. -/
theorem witness_RoundsToNearestEven :
    (5 : Nat) ≠ 0 ∧ roundFp .binary32 false 5 (-151) = 0x00000001#64 ∧ roundFp .binary32 true 1 128 = 0xFF800000#64 ∧
    roundFp .binary64 true 0 7 = 0x8000000000000000#64 := by decide

/-- Finite operands of both signs, zeros among them; a NaN and both infinities. -/
theorem witness_OperationsAreCorrectlyRounded :
    fpVal .binary64 0x3FF8000000000000#64 = .fin false (3 * 2 ^ 51) (-52) ∧
    fpVal .binary64 0xC000000000000000#64 = .fin true (2 ^ 52) (-51) ∧
    fpVal .binary32 0x80000000#64 = .fin true 0 (-149) ∧ fpVal .binary32 0#64 = .fin false 0 (-149) ∧
    fpVal .binary64 0x7FF8000000000000#64 = .nan ∧ fpVal .binary64 0x7FF0000000000000#64 = .inf false ∧
    fpVal .binary32 0xFF800000#64 = .inf true := by decide

theorem witness_RoundingIsExactOnTheFormat :
    (0x7FEFFFFFFFFFFFFF#64 : Fp).toNat < 2 * signWeight .binary64 ∧
    fpVal .binary64 0x7FEFFFFFFFFFFFFF#64 = .fin false (2 ^ 53 - 1) 971 ∧
    (0x80000001#64 : Fp).toNat < 2 * signWeight .binary32 ∧ fpVal .binary32 0x80000001#64 = .fin true 1 (-149) := by
  decide

/-- NaN results exist. -/
theorem witness_NaNResultsAreCanonical :
    fpVal .binary64 (fsqrt .binary64 0xBFF0000000000000#64) = .nan ∧ fpVal .binary32 (fdiv .binary32 0#64 0#64) = .nan := by
  decide

/-- An exact tie of the rounding: 2.5. -/
theorem witness_EncodingRoundsAndSaturates :
    roundHalfAway false 5 (-1) = 3 ∧ roundHalfAway true 5 (-1) = -3 ∧ encInt (-1) = (0#16, true) ∧
    encInt 0 = (0#16, false) ∧ encInt 65535 = (65535#16, false) ∧ encInt 65536 = (65535#16, true) := by decide

/-- The answers of P3's first InitSeq over image `Z'`. -/
def initScript (verifyMsb : Byte) : List BusAnswer :=
  [.ok imageZ, .ok [], .ok [], .ok [0x3E#8, 0x70#8], .ok [], .ok [0x3C#8, verifyMsb]]

/-- The flag clear, and the flag set. -/
theorem witness_InitCompletes :
    (let s := { State.reset with answers := initScript 0x70#8 }
     s.quiet ∧ InitAnswers s imageZ (.done 0x3E#8 0x70#8) (some (0x3C#8, 0x70#8))) ∧
    (let s := opened (initScript 0x74#8)
     s.quiet ∧ InitAnswers s imageZ (.done 0x3E#8 0x70#8) (some (0x3C#8, 0x74#8))) :=
  ⟨⟨⟨rfl, rfl⟩, ⟨congrArg some answer_imageZ, rfl, rfl, ⟨rfl, rfl⟩, rfl⟩⟩,
    ⟨⟨rfl, rfl⟩, ⟨congrArg some answer_imageZ, rfl, rfl, ⟨rfl, rfl⟩, rfl⟩⟩⟩

/-- The three fatal steps. -/
theorem witness_InitFailsAsAWhole :
    (opened [.fail]).quiet ∧ FatalStep.eeprom.FailsAt (opened [.fail]) imageZ ∧
    FatalStep.trim.FailsAt (opened [.ok imageZ, .fail]) imageZ ∧
    FatalStep.config.FailsAt (opened [.ok imageZ, .ok [], .fail]) imageZ :=
  ⟨⟨rfl, rfl⟩, rfl, ⟨congrArg some answer_imageZ, rfl⟩, ⟨congrArg some answer_imageZ, rfl, rfl⟩⟩

/-- Both fail; the rate step's write alone; the verification read alone. -/
theorem witness_InitSurvivesRateAndVerifyFailure :
    (let s := opened [.ok imageZ, .ok [], .ok [], .fail, .fail]
     s.quiet ∧ InitAnswers s imageZ .readFails none) ∧
    (let s := opened [.ok imageZ, .ok [], .ok [], .ok [0x3E#8, 0x70#8], .fail, .ok [0x3E#8, 0x70#8]]
     s.quiet ∧ InitAnswers s imageZ (.writeFails 0x3E#8 0x70#8) (some (0x3E#8, 0x70#8)) ∧
       flagSeen s.params (some (0x3E#8, 0x70#8)) = false) ∧
    (let s := opened [.ok imageZ, .ok [], .ok [], .ok [0x3E#8, 0x70#8], .ok [], .fail]
     s.quiet ∧ InitAnswers s imageZ (.done 0x3E#8 0x70#8) none) :=
  ⟨⟨⟨rfl, rfl⟩, ⟨congrArg some answer_imageZ, rfl, rfl, rfl, rfl⟩⟩,
    ⟨⟨rfl, rfl⟩, ⟨congrArg some answer_imageZ, rfl, rfl, ⟨rfl, rfl⟩, rfl⟩, by decide⟩,
    ⟨⟨rfl, rfl⟩, ⟨congrArg some answer_imageZ, rfl, rfl, ⟨rfl, rfl⟩, rfl⟩⟩⟩

/-- What the cycles of the witnesses read. -/
def cycleZ : CycleData :=
  { cfgL := 0x3C#8, cfgM := 0x70#8, ptat0 := 0#8, ptat1 := 0#8, cp0 := 0#8, cp1 := 0#8, ir := List.replicate 128 0#8 }

/-- The answers of a cycle that reads `cycleZ`. -/
def cycleScript : List BusAnswer :=
  [.ok [0x3C#8, 0x70#8], .ok [0#8, 0#8], .ok [0#8, 0#8], .ok (List.replicate 128 0#8)]

/-- TA over image `Z'` from PTAT 0. -/
theorem plausible_imageZ : plausible .binary64 (taFormula {} (imageOf imageZ) 0#16) = true := by decide +kernel

/-- TA over image `Z'` in EE from PTAT 0. -/
theorem plausible_stored : plausible .binary64
    (taFormula {} (fun a => (Memory.writeBlock [] eeBase imageZ).read (eeBase + a.toNat)) (0#8 ++ 0#8)) = true := by
  decide +kernel

/-- TA over an EE of zeros is NaN (R208). -/
theorem implausible_zero :
    plausible .binary64 (taFormula {} (fun a => Memory.read [] (eeBase + a.toNat)) (0#8 ++ 0#8)) = false := by decide

/-- RUN, and RUN going on after the pause of an ambient retry. -/
theorem witness_RunReachesFirstPause :
    let script := initScript 0x70#8 ++ .ok [0#8, 0#8] :: cycleScript
    let s := { State.reset with answers := script }
    let p := running (.pause .amb) script
    s.quiet ∧ InitAnswers s imageZ (.done 0x3E#8 0x70#8) (some (0x3C#8, 0x70#8)) ∧
      s.answerAt 6 2 = some [0#8, 0#8] ∧ CycleAnswers s 7 cycleZ ∧
      p.RunsAt (.pause .amb) ∧ p.termReq = false ∧
      InitAnswers p imageZ (.done 0x3E#8 0x70#8) (some (0x3C#8, 0x70#8)) ∧
      p.answerAt 6 2 = some [0#8, 0#8] ∧ CycleAnswers p 7 cycleZ ∧
      (0x70#8 : Byte).getLsbD 2 ≠ s.params.porActiveLevel ∧
      plausible .binary64 (taFormula {} (imageOf imageZ) cycleZ.ptat) = true :=
  ⟨⟨rfl, rfl⟩, ⟨congrArg some answer_imageZ, rfl, rfl, ⟨rfl, rfl⟩, rfl⟩, rfl,
    ⟨rfl, by decide, rfl, rfl, congrArg some (fitResponse_of_length 10 (List.replicate 128 0#8))⟩,
    ⟨rfl, rfl, rfl, rfl, rfl⟩, rfl, ⟨congrArg some answer_imageZ, rfl, rfl, ⟨rfl, rfl⟩, rfl⟩, rfl,
    ⟨rfl, by decide, rfl, rfl, congrArg some (fitResponse_of_length 10 (List.replicate 128 0#8))⟩, by decide,
    plausible_imageZ⟩

/-- RUN submitted, and RUN at the end of each pause that initializes. -/
theorem witness_RunShutsDownOnInitFailure :
    (opened [.fail]).quiet ∧ FatalStep.eeprom.FailsAt (opened [.fail]) imageZ ∧
    (let s := running (.pause .amb) [.ok imageZ, .fail]
     s.RunsAt (.pause .amb) ∧ s.termReq = false ∧ FatalStep.trim.FailsAt s imageZ) ∧
    (let s := running (.pause .por) [.ok imageZ, .ok [], .fail]
     s.RunsAt (.pause .por) ∧ s.termReq = false ∧ FatalStep.config.FailsAt s imageZ) :=
  ⟨⟨rfl, rfl⟩, rfl, ⟨⟨rfl, rfl, rfl, rfl, rfl⟩, rfl, congrArg some answer_imageZ, rfl⟩,
    ⟨⟨rfl, rfl, rfl, rfl, rfl⟩, rfl, congrArg some answer_imageZ, rfl, rfl⟩⟩

theorem witness_StopCompletes : (running (.pause .por) []).busy = true ∧ (opened []).busy = false := by decide

/-- No outside event is due, and a move is granted before one. -/
theorem witness_StopAfterAnotherCommand :
    let s := { opened [] with termReq := true }
    s.busy = false ∧ s.termReq = true ∧ s.inputs = [] ∧
    ({ s with inputs := [.advance, .reset] } : State).inputs = .advance :: [.reset] := by decide

/-- A cycle at its IR read, and a cycle after its pause whose IR read fails. -/
theorem witness_IrFailureEndsRun :
    (∃ s r, Reaches (.op .irRead .cycleIr) s r ∧ s.busAnswer 128 = none) ∧
    ∃ s r, Reaches (.op .irRead .cycleIr) s r ∧ s.busAnswer 128 = none ∧ s.cpValid = true :=
  ⟨⟨_, _, .here (s := running (.op .irRead .cycleIr) [.fail]) ⟨rfl, rfl, rfl, rfl, rfl⟩ rfl, rfl⟩,
    ⟨_, _, .cpRead (.cyclePasses (.checkClear (.cycleEnds (s := { running (.pause .cycle)
      [.ok [0x3C#8, 0x70#8], .ok [0#8, 0#8], .ok [0#8, 0#8], .fail] with
        mem := Memory.writeBlock [] eeBase imageZ, eeValid := true }) ⟨rfl, rfl, rfl, rfl, rfl⟩ rfl)
      (l := 0x3C#8) (m := 0x70#8) rfl (by decide)) (p0 := 0#8) (p1 := 0#8) rfl ⟨rfl, plausible_stored⟩)
      (c0 := 0#8) (c1 := 0#8) rfl, rfl, rfl⟩⟩

/-- The cycle's check set, and failed at a limit; INIT_PHASE's verification read set; FAULTED_PHASE's failed. -/
theorem witness_BrownOutRecovery :
    (∃ u r, Reaches .faultedPhase u r ∧ u.params.retryLimit = none ∧ u.cfgMsb = 0x74#8) ∧
    (∃ u r, Reaches .faultedPhase u r ∧ u.params.retryLimit = some 1 ∧ u.retryCnt = 1 ∧ u.cfgValid = false) ∧
    (∃ u, Reaches .faultedPhase u (exec .run { State.reset with answers := initScript 0x74#8 }) ∧
      u.params.retryLimit = none) ∧
    ∃ u r, Reaches .faultedPhase u r ∧ u.params.retryLimit = some 1 ∧ u.retryCnt = 0 ∧ u.porObs = true :=
  ⟨⟨_, _, .checkSet (.here (s := running .cycle [.ok [0x3C#8, 0x74#8]]) ⟨rfl, rfl, rfl, rfl, rfl⟩ rfl)
      (l := 0x3C#8) (m := 0x74#8) rfl rfl, rfl, rfl⟩,
    ⟨_, _, .checkFails (.here (s := { running .cycle [.fail] with params := { retryLimit := some 1 }, retryCnt := 1 })
      ⟨rfl, rfl, rfl, rfl, rfl⟩ rfl) rfl, rfl, rfl, rfl⟩,
    ⟨_, .initFaulted (.initDone (.initSeq (.run ⟨rfl, rfl⟩)) (e := imageZ) (q := .done 0x3E#8 0x70#8)
      (v := some (0x3C#8, 0x74#8)) ⟨congrArg some answer_imageZ, rfl, rfl, ⟨rfl, rfl⟩, rfl⟩) nofun rfl, rfl⟩,
    ⟨_, _, .initFaulted (.initDone (.porEnds (s := { running (.pause .por) [.ok imageZ, .ok [], .ok [], .fail, .fail] with
      params := { retryLimit := some 1 } }) ⟨rfl, rfl, rfl, rfl, rfl⟩ rfl) (e := imageZ) (q := .readFails) (v := none)
      ⟨congrArg some answer_imageZ, rfl, rfl, rfl, rfl⟩) nofun rfl, rfl, rfl, rfl⟩⟩

/-- INIT_PHASE's PTAT read fails after RUN. -/
theorem witness_AmbientRetry_initRead :
    ∃ u, Reaches (.ambientRetry .busTransactionFailed) u
      (exec .run { State.reset with answers := initScript 0x70#8 ++ [.fail] }) ∧ u.params.retryLimit = none :=
  ⟨_, .ambientFails (f := .read) (.initAmbient (.initDone (.initSeq (.run ⟨rfl, rfl⟩)) (e := imageZ)
    (q := .done 0x3E#8 0x70#8) (v := some (0x3C#8, 0x70#8)) ⟨congrArg some answer_imageZ, rfl, rfl, ⟨rfl, rfl⟩, rfl⟩)
    rfl) rfl rfl, rfl⟩

/-- The pause of an ambient retry before an InitSeq that reads an image of zeros, and a PTAT of 0. -/
def retryZero : State :=
  running (.pause .amb) [.ok imageZero, .ok [], .ok [], .ok [0#8, 0#8], .ok [], .ok [0#8, 0#8], .ok [0#8, 0#8]]

/-- That InitSeq answered. -/
def retryZeroRan : State :=
  initRan { retryZero with loopState := .initializing } imageZero (.done 0#8 0#8) (some (0#8, 0#8))

/-- TA over an image of zeros is NaN (R208). -/
theorem implausible_retryZero :
    (AmbientFailure.implausible 0#8 0#8).Happens retryZeroRan := ⟨rfl, by decide +kernel⟩

/-- INIT_PHASE's TA is implausible after the pause of a retry. -/
theorem witness_AmbientRetry_initImplausible :
    Reaches (.ambientRetry .calibrationImplausible)
      ((AmbientFailure.implausible 0#8 0#8).leaves retryZeroRan) (step retryZero) ∧ retryZero.params.retryLimit = none :=
  have h1 : Reaches .initPhase retryZero (step retryZero) := .ambEnds ⟨rfl, rfl, rfl, rfl, rfl⟩ rfl
  have h2 : Reaches (.initDone .initPhase) retryZeroRan (step retryZero) :=
    .initDone (.initSeq h1) ⟨congrArg some answer_imageZero, rfl, rfl, ⟨rfl, rfl⟩, rfl⟩
  ⟨.ambientFails (.initAmbient h2 rfl) rfl implausible_retryZero, rfl⟩

/-- The cycle's PTAT read fails; its TA is implausible at the limit; its CP read fails; a step that begins at the
position. -/
theorem witness_AmbientRetry :
    (∃ u r, Reaches (.ambientRetry .busTransactionFailed) u r ∧ u.params.retryLimit = none ∧ u.eeValid = true) ∧
    (∃ u r, Reaches (.ambientRetry .calibrationImplausible) u r ∧ u.params.retryLimit = some 0 ∧ u.retryCnt = 0) ∧
    (∃ u r, Reaches (.ambientRetry .busTransactionFailed) u r ∧ u.params.retryLimit = none ∧ u.taValid = true) ∧
    Reaches (.ambientRetry .calibrationImplausible) (running (.ambientRetry .calibrationImplausible) [])
      (step (running (.ambientRetry .calibrationImplausible) [])) ∧ Cause.calibrationImplausible ≠ .stopped :=
  ⟨⟨_, _, .ambientFails (f := .read) (.checkClear (.cycleEnds (s := { running (.pause .cycle)
      [.ok [0x3C#8, 0x70#8], .fail] with eeValid := true }) ⟨rfl, rfl, rfl, rfl, rfl⟩ rfl) (l := 0x3C#8) (m := 0x70#8) rfl
      (by decide)) rfl rfl, rfl, rfl⟩,
    ⟨_, _, .ambientFails (f := .implausible 0#8 0#8) (.checkClear (.here (s := { running .cycle
      [.ok [0x3C#8, 0x70#8], .ok [0#8, 0#8]] with eeValid := true, params := { retryLimit := some 0 } })
      ⟨rfl, rfl, rfl, rfl, rfl⟩ rfl) (l := 0x3C#8) (m := 0x70#8) rfl (by decide)) rfl ⟨rfl, implausible_zero⟩, rfl, rfl⟩,
    ⟨_, _, .cpFails (.cyclePasses (.checkClear (.here (s := { running .cycle
      [.ok [0x3C#8, 0x70#8], .ok [0#8, 0#8], .fail] with mem := Memory.writeBlock [] eeBase imageZ, eeValid := true })
      ⟨rfl, rfl, rfl, rfl, rfl⟩ rfl) (l := 0x3C#8) (m := 0x70#8) rfl (by decide)) (p0 := 0#8) (p1 := 0#8) rfl
      ⟨rfl, plausible_stored⟩) rfl, rfl, rfl⟩,
    .here ⟨rfl, rfl, rfl, rfl, rfl⟩ rfl, by decide⟩

/-- A termination request pending; none pending with an outside event due after the next move; the brown-out recovery
with the flag clear and set. -/
theorem witness_PauseEnd :
    (let s := { running (.pause .por) [] with termReq := true }
     s.busy = true ∧ s.inputs = [] ∧ s.busPort = none ∧ s.seq = .pause .por ∧ s.termReq = true) ∧
    (let s := { running (.pause .amb) [] with inputs := [.advance, .hostRead 4 0#12] }
     s.busy = true ∧ Input.hostRead 4 0#12 ≠ .advance ∧ s.busPort = none ∧ s.termReq = false) ∧
    (let s := running (.pause .por) (initScript 0x70#8 ++ cycleScript)
     s.RunsAt (.pause .por) ∧ s.termReq = false ∧
       InitAnswers s imageZ (.done 0x3E#8 0x70#8) (some (0x3C#8, 0x70#8)) ∧
       (0x70#8 : Byte).getLsbD 2 ≠ s.params.porActiveLevel ∧ CycleAnswers s 6 cycleZ ∧
       plausible s.params.fpFormat (taFormula s.params (imageOf imageZ) cycleZ.ptat) = true) ∧
    (let s := running (.pause .por) (initScript 0x74#8)
     InitAnswers s imageZ (.done 0x3E#8 0x70#8) (some (0x3C#8, 0x74#8)) ∧
       (0x74#8 : Byte).getLsbD 2 = s.params.porActiveLevel ∧ s.params.retryLimit = none) :=
  ⟨by decide, by decide,
    ⟨⟨rfl, rfl, rfl, rfl, rfl⟩, rfl, ⟨congrArg some answer_imageZ, rfl, rfl, ⟨rfl, rfl⟩, rfl⟩, by decide,
      ⟨rfl, by decide, rfl, rfl, congrArg some (fitResponse_of_length 9 (List.replicate 128 0#8))⟩, plausible_imageZ⟩,
    ⟨⟨congrArg some answer_imageZ, rfl, rfl, ⟨rfl, rfl⟩, rfl⟩, rfl, rfl⟩⟩

/-- A whole cycle after its pause, over image `Z'`; and the position of the cycle's frame. -/
theorem witness_CycleEmitsOneFrame :
    (let s := { running (.pause .cycle) cycleScript with mem := Memory.writeBlock [] eeBase imageZ, eeValid := true }
     Reaches .cycle s (step s) ∧ s.eeValid = true ∧ CycleAnswers s 0 cycleZ ∧
       plausible s.params.fpFormat (taFormula s.params s.ee cycleZ.ptat) = true) ∧
    (let s := { running .cycleFrame [] with eeValid := true, taValid := true, cpValid := true, irValid := true }
     s.busy = true ∧ s.inputs = [] ∧ s.busPort = none ∧ s.dataReady = true) :=
  ⟨⟨.cycleEnds ⟨rfl, rfl, rfl, rfl, rfl⟩ rfl, rfl,
      ⟨rfl, by decide, rfl, rfl, congrArg some (fitResponse_of_length 3 (List.replicate 128 0#8))⟩, plausible_stored⟩,
    by decide⟩

theorem witness_ReadFramesComplete :
    (opened [.fail]).busAnswer 2 = none ∧ (opened [.ok imageS]).busAnswer 256 = some imageS ∧
    (running (.bus .ptatRead .command) [.ok [1#8, 2#8]]).busAnswer 2 = some [1#8, 2#8] :=
  ⟨rfl, congrArg some answer_imageS, rfl⟩

theorem witness_WriteFramesComplete :
    ((opened [.fail]).busAnswer 0).isSome = false ∧ ((opened [.ok []]).busAnswer 0).isSome = true := by decide

/-- EVENT, IRQ_EN, and the first and last other offsets. -/
theorem witness_HostWrites :
    (0x008#12).toNat % 4 = 0 ∧ (0x00C#12).toNat % 4 = 0 ∧ (0x004#12).toNat % 4 = 0 ∧ (0xFFC#12).toNat % 4 = 0 := by
  decide

/-- V-HOST 3: the first and the last offset of each unmapped range; parts that are unspecified. -/
theorem witness_HostReadsRegisters :
    [0x028, 0x0FC, 0x300, 0x3FC, 0x600, 0xFFC].all (fun a => State.reset.windowRead a 7#32 == 0#32) = true ∧
    State.reset.windowRead 0x024 7#32 = 7#32 ∧ State.reset.windowRead 0x014 0xFFFFFFFF#32 = 0xFFFF#32 ∧
    State.reset.windowRead 0x010 0xFFFFFFFF#32 = 0x000FFFFF#32 ∧
    ({ State.reset with inputs := [.hostRead 4 0x5FC#12] } : State).inputs = [.hostRead 4 0x5FC#12] ∧
    (0x5FC#12).toNat % 4 = 0 := by decide

/-- E1: words 0, 53 and 61 of image `S`; a window whose validity bit is 0 shows the free value. -/
theorem witness_DataWindows :
    let s := { State.reset with mem := Memory.writeBlock [] eeBase imageS, eeValid := true }
    s.windowRead 0x100 0#32 = 0xEFEEEDEC#32 ∧ s.windowRead 0x1D4 0#32 = 0x080014E2#32 ∧
      s.windowRead 0x1F4 0#32 = 0x5A743E00#32 ∧ s.windowRead 0x200 5#32 = 5#32 ∧ s.windowRead 0x5FC 5#32 = 5#32 := by
  decide +kernel

theorem witness_UnadmittedAccessIsStuck :
    ({ State.reset with inputs := [.hostRead 2 0#12] } : State).inputs = [.hostRead 2 0#12] ∧
    (0x002#12).toNat % 4 ≠ 0 := by decide

/-- In a pause, and with a request at the transport; an operation about to begin, and one about to send its request. -/
theorem witness_ResetEvent :
    ({ running (.pause .cycle) [] with termReq := true, inputs := [.reset] } : State).inputs = [.reset] ∧
    ({ running (.bus .cpRead .cycleCp) [] with inputs := [.reset] } : State).seq = .bus .cpRead .cycleCp ∧
    (let s := { running (.op .cpRead .cycleCp) [] with inputs := [.advance, .reset] }
     s.busy = true ∧ s.busPort = none ∧ s.inputs = [.advance, .reset] ∧ s.sessionOpen = true ∧
       ({ s with seq := .request .cpRead .cycleCp } : State).busPort = none) :=
  ⟨rfl, rfl, rfl, rfl, rfl, rfl, rfl⟩

/-- A running state, its memory not empty, that steps. -/
theorem witness_MemoryStaysCanonical :
    ready.mem.wf ∧ ready.memMapped ∧ ∃ t, step ready = .next t := ⟨by decide +kernel, by decide +kernel, ⟨_, rfl⟩⟩

/-- RUN in its pause of the cycle is sound. -/
theorem running_pause_sound (e : Bool) : ({ running (.pause .cycle) [] with eeValid := e } : State).Sound :=
  ⟨rfl, rfl, rfl, rfl, fun _ => rfl, nofun, fun _ _ => rfl, rfl⟩

theorem witness_SoundStateKept :
    (running (.pause .cycle) []).Sound ∧ (running (.pause .cycle) []).admitted ∧
    ({ running (.pause .cycle) [] with inputs := [.hostWrite 4 0xFFC#12 0#32] } : State).admitted :=
  ⟨running_pause_sound false, trivial, rfl, rfl⟩

theorem witness_DataReadyKept :
    let s := { running (.pause .cycle) [] with eeValid := true }
    s.Sound ∧ s.dataReady = true ∧ ∃ t, step s = .next t := ⟨running_pause_sound true, rfl, ⟨_, rfl⟩⟩

theorem witness_TaGateKept : ready.gated ∧ ∃ t, step ready = .next t :=
  ⟨by unfold State.gated; decide, ⟨_, rfl⟩⟩

/-- One frame of zeros emitted. -/
theorem witness_EmissionsAgreeKept :
    let s := { running (.pause .cycle) [] with
      frameCount := 1#32, trace := .emit (List.replicate 128 0#8) :: (opened []).trace }
    s.Sound ∧ s.emissionsAgree ∧ ∃ t, step s = .next t :=
  ⟨⟨rfl, rfl, rfl, rfl, fun _ => rfl, nofun, fun _ _ => rfl, by decide⟩,
    ⟨by decide, fun f h => by cases h; decide⟩, ⟨_, rfl⟩⟩

theorem witness_EveryCommandComesToRest :
    let s := { running (.op .cpRead .cycleCp) [] with eeValid := true }
    s.Sound ∧ s.inputs = [] ∧ s.busPort = none ∧ ∃ t, step s = .next t :=
  ⟨⟨rfl, rfl, rfl, rfl, fun _ => rfl, nofun, fun _ _ => rfl, by decide⟩, rfl, rfl, ⟨_, rfl⟩⟩

/-! ### Vectors -/

/-- E5, in binary64, from the real values. -/
theorem test_E5_root : fsqrt .binary64 0x407DE00000000000#64 = 0x4035DCFB673B05DF#64 := by decide +kernel

/-- V-TA-2. -/
theorem test_V_TA_2 : taFormula {} (imageOf imageS) 6900#16 = 0x403D6D2F795694F4#64 := by decide +kernel

/-- V-PIX-1 and V-FRAME: logical pixel 0. -/
theorem test_V_PIX_1 :
    pixelOf {} (imageOf imageS) 0x403D6D2F795694F4#64 0xFFE6#16 (fun x => BitVec.ofInt 16 (-10 + 3 * x)) 0 =
      0x40414D7DBC8AA9F8#64 ∧ encTemp .binary64 0x40414D7DBC8AA9F8#64 = (30776#16, false) := by decide +kernel

/-- V-PIX-2 in binary32: logical pixel 17 is raw pixel 5. -/
theorem test_V_PIX_2_binary32 :
    (let p : Params := { fpFormat := .binary32 }
     let ta := taFormula p (imageOf imageS) 6900#16
     pixelOf p (imageOf imageS) ta 0xFFE6#16 (fun x => BitVec.ofInt 16 (-10 + 3 * x)) 17) = 0x422D6C28#64 := by
  decide +kernel

/-- V-PIX-4: a negative radicand is NaN, encoded 0 with a clamp. -/
theorem test_V_PIX_4 :
    pixelOf {} (imageOf imageS) 0x403D6D2F795694F4#64 0xFFE6#16 (fun _ => 0x8000#16) 0 = fpNaN .binary64 ∧
    encTemp .binary64 (fpNaN .binary64) = (0#16, true) := by decide +kernel

/-- V-ENC: 25.0, -273.15, 382.35, +inf. -/
theorem test_V_ENC :
    encTemp .binary64 0x4039000000000000#64 = (29815#16, false) ∧ encTemp .binary64 0xC071126666666666#64 = (0#16, false) ∧
    encTemp .binary64 0x4077E5999999999A#64 = (65535#16, true) ∧
    encTemp .binary64 0x7FF0000000000000#64 = (65535#16, true) := by decide +kernel

/-- E8: 349.9, 350.0, 350.1, -300.0 and NaN. -/
theorem test_E8_gate :
    plausible .binary64 0x4075DE6666666666#64 = true ∧ plausible .binary64 0x4075E00000000000#64 = true ∧
    plausible .binary64 0x4075E1999999999A#64 = false ∧ plausible .binary64 0xC072C00000000000#64 = true ∧
    plausible .binary64 (fpNaN .binary64) = false := by decide

/-- V-REMAP. -/
theorem test_V_REMAP : rawIndex 1 = 4 ∧ rawIndex 17 = 5 ∧ rawIndex 63 = 63 ∧ logicalIndex 7 = 49 := by decide

/-- P4: RUN ended by an IR read failure; the final STATUS and EVENT. -/
theorem test_run_P4 :
    after (exec .run { State.reset with answers :=
      [.ok imageZ, .ok [], .ok [], .ok [0x3E#8, 0x70#8], .ok [], .ok [0x3C#8, 0x70#8], .ok [0#8, 0#8],
       .ok [0x3C#8, 0x70#8], .ok [0#8, 0#8], .ok [0#8, 0#8], .fail] })
      (fun t => t.statusWord == 0x600445E8#32 && t.event == 0b00011#5) = true := by decide +kernel

end Sys2Proof.Tests
end

section
/-! The finite values of a format in the order of their codes: what a magnitude code stands for, how far apart two
neighbours are, and how an encoding is read and packed (spec/00_scope.md R13). -/

namespace Sys2Proof.Proofs

open Sys2Proof.Machine

variable {f : FpFormat} {neg : Bool} {c : Nat} {x : Fp}

/-! ### Magnitude codes -/

/-- The place of a code's exponent above the least one: subnormals and the least normal numbers share place 0. -/
def codePlace (f : FpFormat) (c : Nat) : Nat := c / 2 ^ fracBits f - 1

/-- The significand of a magnitude code, the hidden bit included. -/
def codeMant (f : FpFormat) (c : Nat) : Nat := c - codePlace f c * 2 ^ fracBits f

/-- The exponent of a magnitude code. -/
def codeExp (f : FpFormat) (c : Nat) : Int := minExp f + codePlace f c

/-- The value of a magnitude code; `infCode` and the codes above it stand for what a format of unbounded exponent
would have there. `fpVal_fpPack` ties it to the model. -/
def codeVal (f : FpFormat) (c : Nat) : ℚ := finVal false (codeMant f c) (codeExp f c)

theorem codeVal_eq (f : FpFormat) (c : Nat) : codeVal f c = codeMant f c * 2 ^ codeExp f c := by
  simp [codeVal, finVal]

/-- A significand `n` at the place `j`: with its hidden bit above place 0, and at most the first one of the next
place. -/
structure Significand (f : FpFormat) (j n : Nat) : Prop where
  hidden : 0 < j → 2 ^ fracBits f ≤ n
  le     : n ≤ 2 * 2 ^ fracBits f

theorem codePlace_of_lt {j n : Nat} (h : Significand f j n) (hn : n < 2 * 2 ^ fracBits f) :
    codePlace f (j * 2 ^ fracBits f + n) = j := by
  have hF : 0 < 2 ^ fracBits f := Nat.two_pow_pos _
  rw [codePlace, Nat.mul_comm, Nat.mul_add_div hF]
  have hn2 : n / 2 ^ fracBits f < 2 := Nat.div_lt_of_lt_mul (by omega)
  rcases Nat.eq_zero_or_pos j with rfl | hj
  · omega
  · have : 1 ≤ n / 2 ^ fracBits f := (Nat.one_le_div_iff hF).2 (h.hidden hj)
    omega

/-- A significand at a place is the code's value there, also where it carries into the next place. -/
theorem codeVal_of_significand {j n : Nat} (h : Significand f j n) :
    codeVal f (j * 2 ^ fracBits f + n) = n * 2 ^ (minExp f + j) := by
  rcases h.le.lt_or_eq with hn | rfl
  · rw [codeVal_eq, codeMant, codeExp, codePlace_of_lt h hn, Nat.add_sub_cancel_left]
  · have hc : j * 2 ^ fracBits f + 2 * 2 ^ fracBits f = (j + 1) * 2 ^ fracBits f + 2 ^ fracBits f := by ring
    have hp : 0 < 2 ^ fracBits f := Nat.two_pow_pos _
    have hplace := codePlace_of_lt (f := f) (j := j + 1) (n := 2 ^ fracBits f) ⟨fun _ => le_rfl, by omega⟩ (by omega)
    rw [hc, codeVal_eq, codeMant, codeExp, hplace, Nat.add_sub_cancel_left, Nat.cast_add_one, ← add_assoc,
      zpow_add_one₀ two_ne_zero]
    push_cast
    ring

theorem codePlace_mul_le (f : FpFormat) (c : Nat) : codePlace f c * 2 ^ fracBits f ≤ c :=
  (Nat.mul_le_mul_right _ (Nat.sub_le _ _)).trans (Nat.div_mul_le_self _ _)

theorem codePlace_mul_add_codeMant (f : FpFormat) (c : Nat) :
    codePlace f c * 2 ^ fracBits f + codeMant f c = c :=
  Nat.add_sub_cancel' (codePlace_mul_le f c)

theorem codeMant_lt (f : FpFormat) (c : Nat) : codeMant f c < 2 * 2 ^ fracBits f := by
  have hc := codePlace_mul_add_codeMant f c
  have hlt := Nat.lt_div_mul_add (a := c) (Nat.two_pow_pos (fracBits f))
  rcases Nat.eq_zero_or_pos (c / 2 ^ fracBits f) with h0 | h0
  · simp only [codePlace, h0] at hc hlt
    omega
  · obtain ⟨k, hk⟩ := Nat.exists_eq_add_of_lt h0
    simp only [codePlace, hk, Nat.zero_add, Nat.add_sub_cancel] at hc hlt
    linarith

theorem significand_codeMant (f : FpFormat) (c : Nat) : Significand f (codePlace f c) (codeMant f c) := by
  refine ⟨fun h => ?_, (codeMant_lt f c).le⟩
  have hc := codePlace_mul_add_codeMant f c
  have hd := Nat.div_mul_le_self c (2 ^ fracBits f)
  obtain ⟨k, hk⟩ := Nat.exists_eq_add_of_lt (show 0 < c / 2 ^ fracBits f by simp only [codePlace] at h; omega)
  simp only [codePlace, hk, Nat.zero_add, Nat.add_sub_cancel] at hc hd
  linarith

/-- The next code is one unit of the code's own place away. -/
theorem codeVal_succ (f : FpFormat) (c : Nat) : codeVal f (c + 1) = codeVal f c + 2 ^ codeExp f c := by
  have hs := significand_codeMant f c
  have hn : Significand f (codePlace f c) (codeMant f c + 1) := ⟨fun h => by linarith [hs.hidden h], codeMant_lt f c⟩
  have h := codeVal_of_significand hn
  rw [← Nat.add_assoc, codePlace_mul_add_codeMant] at h
  rw [h, codeVal_eq, codeExp]
  push_cast
  ring

theorem codeVal_strictMono (f : FpFormat) : StrictMono (codeVal f) :=
  strictMono_nat_of_lt_succ fun c => by
    rw [codeVal_succ]
    exact lt_add_of_pos_right _ (zpow_pos two_pos _)

@[simp] theorem codeVal_zero (f : FpFormat) : codeVal f 0 = 0 := by simp [codeVal_eq, codeMant]

theorem codeVal_nonneg (f : FpFormat) (c : Nat) : 0 ≤ codeVal f c := by
  rw [← codeVal_zero f]
  exact (codeVal_strictMono f).monotone (Nat.zero_le c)

/-- The significand from the two fields of a code. -/
theorem codeMant_eq (f : FpFormat) (c : Nat) :
    codeMant f c = if c / 2 ^ fracBits f = 0 then c % 2 ^ fracBits f else 2 ^ fracBits f + c % 2 ^ fracBits f := by
  have hc := Nat.div_add_mod' c (2 ^ fracBits f)
  split
  · next h0 =>
    rw [h0, Nat.zero_mul, Nat.zero_add] at hc
    simp [codeMant, codePlace, h0, hc]
  · next h0 =>
    rw [← Nat.sub_one_add_one h0, add_one_mul] at hc
    rw [codeMant, codePlace]
    omega

/-! ### The largest finite code -/

theorem infCode_pos (f : FpFormat) : 0 < infCode f := by cases f <;> decide

theorem infCode_lt_signWeight (f : FpFormat) : infCode f < signWeight f := by cases f <;> decide

theorem infCode_odd (f : FpFormat) : (infCode f - 1) % 2 = 1 := by cases f <;> decide

theorem signWeight_even (f : FpFormat) : signWeight f % 2 = 0 := by cases f <;> decide

theorem two_mul_signWeight_le (f : FpFormat) : 2 * signWeight f ≤ 2 ^ 64 := by cases f <;> decide

/-- `infCode` as a significand: the carry out of the last finite place. -/
theorem infCode_eq (f : FpFormat) : infCode f = (2 ^ expBits f - 3) * 2 ^ fracBits f + 2 * 2 ^ fracBits f := by
  cases f <;> decide

theorem infCode_eq_mul (f : FpFormat) : infCode f = (2 ^ expBits f - 1) * 2 ^ fracBits f := rfl

theorem minExp_add_last_place (f : FpFormat) :
    minExp f + ((2 ^ expBits f - 3 : Nat) : Int) = minExp f + 2 ^ expBits f - 3 := by
  cases f <;> decide

/-- The overflow bound is halfway between the largest finite value and the first code above it. -/
theorem overflowBound_eq (f : FpFormat) :
    overflowBound f = (codeVal f (infCode f - 1) + codeVal f (infCode f)) / 2 := by
  have hF : 1 ≤ 2 ^ fracBits f := Nat.one_le_two_pow
  have hs : Significand f (2 ^ expBits f - 3) (2 * 2 ^ fracBits f) := ⟨fun _ => by omega, le_rfl⟩
  have hs' : Significand f (2 ^ expBits f - 3) (2 * 2 ^ fracBits f - 1) := ⟨fun _ => by omega, by omega⟩
  have hlast : infCode f - 1 = (2 ^ expBits f - 3) * 2 ^ fracBits f + (2 * 2 ^ fracBits f - 1) := by
    rw [infCode_eq]; omega
  rw [hlast, codeVal_of_significand hs', infCode_eq, codeVal_of_significand hs, minExp_add_last_place, overflowBound,
    Nat.cast_sub (by omega), pow_succ]
  push_cast
  ring

/-! ### Reading and packing -/

/-- The magnitude code of an encoding. -/
def fpCode (f : FpFormat) (x : Fp) : Nat := x.toNat % signWeight f

/-- The sign bit of an encoding. -/
def fpSign (f : FpFormat) (x : Fp) : Bool := x.toNat / signWeight f % 2 == 1

/-- What a magnitude code and a sign stand for. -/
theorem fpVal_eq (f : FpFormat) (x : Fp) :
    fpVal f x =
      if fpCode f x / 2 ^ fracBits f = 2 ^ expBits f - 1 then
        if fpCode f x % 2 ^ fracBits f = 0 then .inf (fpSign f x) else .nan
      else .fin (fpSign f x) (codeMant f (fpCode f x)) (codeExp f (fpCode f x)) := by
  have hw : signWeight f = 2 ^ fracBits f * 2 ^ expBits f := by rw [signWeight, pow_add, Nat.mul_comm]
  have hex : fpCode f x / 2 ^ fracBits f = x.toNat / 2 ^ fracBits f % 2 ^ expBits f := by
    rw [fpCode, hw, Nat.mod_mul_right_div_self]
  have hfr : fpCode f x % 2 ^ fracBits f = x.toNat % 2 ^ fracBits f := by
    rw [fpCode, hw, Nat.mod_mul_right_mod]
  rw [fpVal, ← hex, ← hfr]
  simp only [codeMant_eq, codeExp, codePlace, fpSign]
  split
  · rfl
  · by_cases h0 : fpCode f x / 2 ^ fracBits f = 0 <;> simp [h0]

theorem toNat_fpPack (hc : c ≤ infCode f) : (fpPack f neg c).toNat = (if neg then signWeight f else 0) + c := by
  have h1 := infCode_lt_signWeight f
  have h2 := two_mul_signWeight_le f
  rw [fpPack, BitVec.toNat_ofNat]
  cases neg <;> simp only [Bool.false_eq_true, if_true, if_false, Nat.zero_add] <;> exact Nat.mod_eq_of_lt (by omega)

theorem fpPack_lt (hc : c ≤ infCode f) : (fpPack f neg c).toNat < 2 * signWeight f := by
  have h1 := infCode_lt_signWeight f
  rw [toNat_fpPack hc]
  split <;> omega

theorem fpCode_fpPack (hc : c ≤ infCode f) : fpCode f (fpPack f neg c) = c := by
  have h1 := infCode_lt_signWeight f
  rw [fpCode, toNat_fpPack hc]
  cases neg <;> simp [Nat.mod_eq_of_lt (show c < signWeight f by omega)]

theorem fpSign_fpPack (hc : c ≤ infCode f) : fpSign f (fpPack f neg c) = neg := by
  have h1 := infCode_lt_signWeight f
  have h0 : c / signWeight f = 0 := Nat.div_eq_of_lt (by omega)
  have hp : 0 < signWeight f := by omega
  rw [fpSign, toNat_fpPack hc]
  cases neg <;> simp [Nat.add_div_left, h0, hp]

theorem fpPack_code_sign (h : x.toNat < 2 * signWeight f) : fpPack f (fpSign f x) (fpCode f x) = x := by
  have hd := Nat.div_add_mod x.toNat (signWeight f)
  have h2 : x.toNat / signWeight f < 2 := Nat.div_lt_of_lt_mul (by rwa [Nat.mul_comm])
  apply BitVec.eq_of_toNat_eq
  rw [fpPack, BitVec.toNat_ofNat, fpSign, fpCode]
  rcases Nat.le_one_iff_eq_zero_or_eq_one.1 (Nat.lt_succ_iff.1 h2) with h | h <;>
    · rw [h] at hd ⊢
      have : x.toNat % signWeight f ≤ x.toNat := Nat.mod_le _ _
      simp
      omega

theorem fpPack_even (hc : c ≤ infCode f) : (fpPack f neg c).toNat % 2 = c % 2 := by
  have := signWeight_even f
  rw [toNat_fpPack hc]
  split <;> omega

theorem exponent_ne_of_lt (hc : c < infCode f) : c / 2 ^ fracBits f ≠ 2 ^ expBits f - 1 :=
  (Nat.div_lt_of_lt_mul (by rwa [Nat.mul_comm, ← infCode_eq_mul])).ne

/-- Packing a sign and a finite code, and reading it again. -/
theorem fpVal_fpPack (neg : Bool) (hc : c < infCode f) :
    fpVal f (fpPack f neg c) = .fin neg (codeMant f c) (codeExp f c) := by
  rw [fpVal_eq, fpCode_fpPack hc.le, fpSign_fpPack hc.le, if_neg (exponent_ne_of_lt hc)]

theorem fpVal_fpNaN (f : FpFormat) : fpVal f (fpNaN f) = .nan := by cases f <;> decide

theorem fpVal_fpInf (f : FpFormat) (neg : Bool) : fpVal f (fpInf f neg) = .inf neg := by
  cases f <;> cases neg <;> decide

theorem fpVal_zero (f : FpFormat) (neg : Bool) : fpVal f (fpPack f neg 0) = .fin neg 0 (minExp f) := by
  cases f <;> cases neg <;> decide

/-- What a finite encoding stands for is the sign and the value of a finite code. -/
theorem code_of_fpVal_fin {m : Nat} {e : Int} (h : fpVal f x = .fin neg m e) :
    fpCode f x < infCode f ∧ fpSign f x = neg ∧ codeMant f (fpCode f x) = m ∧ codeExp f (fpCode f x) = e := by
  rw [fpVal_eq] at h
  split at h
  · split at h <;> cases h
  · next hne =>
    obtain ⟨rfl, rfl, rfl⟩ := FpVal.fin.inj h
    refine ⟨?_, rfl, rfl, rfl⟩
    have hlt : fpCode f x / 2 ^ fracBits f < 2 ^ expBits f := by
      apply Nat.div_lt_of_lt_mul
      rw [← pow_add, Nat.add_comm]
      exact Nat.mod_lt _ (Nat.two_pow_pos _)
    rw [infCode_eq_mul]
    exact (Nat.div_lt_iff_lt_mul (Nat.two_pow_pos _)).1 (by omega)

/-! ### Signs -/

/-- The factor that a sign bit stands for. -/
def signOf (neg : Bool) : ℚ := if neg then -1 else 1

@[simp] theorem signOf_false : signOf false = 1 := rfl
@[simp] theorem signOf_true : signOf true = -1 := rfl

theorem signOf_bne (a b : Bool) : signOf (a != b) = signOf a * signOf b := by
  cases a <;> cases b <;> norm_num

theorem abs_signOf_cast (neg : Bool) : |(signOf neg : ℝ)| = 1 := by cases neg <;> simp

theorem finVal_eq (neg : Bool) (m : Nat) (e : Int) : finVal neg m e = signOf neg * (m * 2 ^ e) := mul_assoc _ _ _

/-- The value of a finite encoding is its sign times its code's value. -/
theorem finVal_of_fpVal {m : Nat} {e : Int} (h : fpVal f x = .fin neg m e) :
    finVal neg m e = signOf neg * codeVal f (fpCode f x) := by
  obtain ⟨-, -, rfl, rfl⟩ := code_of_fpVal_fin h
  rw [finVal_eq, codeVal_eq]

end Sys2Proof.Proofs
end

section
/-! The one rounding of the formats, `roundFp`, goes to the nearest code, ties to even; and what that says of the
encoding it gives (spec/00_scope.md R13). The argument for a real value that the rounded integer only stands for, a
sticky bit below it, is the same. -/

namespace Sys2Proof.Proofs

open Sys2Proof.Machine

variable {f : FpFormat} {neg : Bool} {c : Nat} {v : ℝ}

/-! ### The nearest code -/

/-- `c` is the code nearest to `v`, an even one on a tie, among all codes, those from `infCode` on included. -/
def NearestCode (f : FpFormat) (v : ℝ) (c : Nat) : Prop :=
  ∀ d, d ≠ c → |(codeVal f c : ℝ) - v| < |(codeVal f d : ℝ) - v| ∨
    (|(codeVal f c : ℝ) - v| = |(codeVal f d : ℝ) - v| ∧ c % 2 = 0)

theorem NearestCode.le (h : NearestCode f v c) (d : Nat) : |(codeVal f c : ℝ) - v| ≤ |(codeVal f d : ℝ) - v| := by
  by_cases hd : d = c
  · rw [hd]
  · rcases h d hd with hlt | ⟨heq, -⟩
    · exact hlt.le
    · exact heq.le

theorem codeVal_le_cast {c d : Nat} (h : c ≤ d) : (codeVal f c : ℝ) ≤ codeVal f d :=
  Rat.cast_le.2 ((codeVal_strictMono f).monotone h)

theorem codeVal_lt_cast {c d : Nat} (h : c < d) : (codeVal f c : ℝ) < codeVal f d :=
  Rat.cast_lt.2 (codeVal_strictMono f h)

/-- A code's own value has no other nearest code. -/
theorem NearestCode.eq_of_codeVal {d : Nat} (h : NearestCode f (codeVal f d) c) : c = d := by
  have h0 := h.le d
  rw [sub_self, abs_zero, abs_nonpos_iff, sub_eq_zero] at h0
  exact (codeVal_strictMono f).injective (Rat.cast_injective h0)

theorem overflowBound_cast (f : FpFormat) :
    (overflowBound f : ℝ) = ((codeVal f (infCode f - 1) : ℝ) + codeVal f (infCode f)) / 2 := by
  rw [overflowBound_eq]
  push_cast
  rfl

/-- The overflow bound tells whether the nearest code is finite: at the bound itself the tie goes to the even `infCode`. -/
theorem NearestCode.lt_infCode_iff (h : NearestCode f v c) : c < infCode f ↔ v < overflowBound f := by
  have hpos := infCode_pos f
  have hstep : (codeVal f (infCode f - 1) : ℝ) < codeVal f (infCode f) := codeVal_lt_cast (by omega)
  rw [overflowBound_cast]
  constructor
  · intro hc
    have hle : (codeVal f c : ℝ) ≤ codeVal f (infCode f - 1) := codeVal_le_cast (by omega)
    by_contra hv
    have hfar : |(codeVal f (infCode f) : ℝ) - v| ≤ v - codeVal f (infCode f - 1) := by
      rw [abs_le]; constructor <;> linarith
    have hnear : v - codeVal f c ≤ |(codeVal f c : ℝ) - v| := by rw [abs_sub_comm]; exact le_abs_self _
    rcases h (infCode f) hc.ne' with hlt | ⟨-, heven⟩
    · linarith
    · have hodd := infCode_odd f
      have hlt : (codeVal f c : ℝ) < codeVal f (infCode f - 1) := codeVal_lt_cast (by omega)
      linarith [h.le (infCode f)]
  · intro hv
    by_contra hc
    have hge : (codeVal f (infCode f) : ℝ) ≤ codeVal f c := codeVal_le_cast (by omega)
    have hfar : codeVal f (infCode f) - v ≤ |(codeVal f c : ℝ) - v| := le_trans (by linarith) (le_abs_self _)
    have hnear : |(codeVal f (infCode f - 1) : ℝ) - v| < codeVal f (infCode f) - v := by
      rw [abs_lt]; constructor <;> linarith
    linarith [h.le (infCode f - 1)]

/-- Among the codes with either sign none is nearer to a positive `v` than its nearest code with the sign plus. -/
theorem NearestCode.signed (h : NearestCode f v c) (hv : 0 < v) (opposite : Bool) (d : Nat) :
    signOf opposite * codeVal f d = codeVal f c ∨
    |(codeVal f c : ℝ) - v| < |(signOf opposite : ℝ) * codeVal f d - v| ∨
    (|(codeVal f c : ℝ) - v| = |(signOf opposite : ℝ) * codeVal f d - v| ∧ c % 2 = 0) := by
  have same : codeVal f d = codeVal f c ∨ |(codeVal f c : ℝ) - v| < |(codeVal f d : ℝ) - v| ∨
      (|(codeVal f c : ℝ) - v| = |(codeVal f d : ℝ) - v| ∧ c % 2 = 0) := by
    by_cases hd : d = c
    · exact .inl (by rw [hd])
    · exact .inr (h d hd)
  cases opposite with
  | false => simpa using same
  | true =>
    rcases (codeVal_nonneg f d).eq_or_lt with h0 | h0
    · simpa [← h0] using same
    · have h0' : (0 : ℝ) < codeVal f d := Rat.cast_pos.2 h0
      refine .inr (.inl ((h.le d).trans_lt ?_))
      rw [signOf_true, Rat.cast_neg, Rat.cast_one, neg_one_mul, abs_of_neg (a := -_ - v) (by linarith), abs_lt]
      constructor <;> linarith

/-- The nearest code, packed with a sign and capped at the infinity, is the rounded value. -/
theorem NearestCode.roundsTo (h : NearestCode f v c) (hv : 0 < v) (neg : Bool) :
    RoundsTo f (signOf neg * v) (fpPack f neg (min c (infCode f))) := by
  have habs : |(signOf neg : ℝ) * v| = v := by rw [abs_mul, abs_signOf_cast, one_mul, abs_of_pos hv]
  have hsign : neg = true ↔ (signOf neg : ℝ) * v < 0 := by cases neg <;> simp [hv, hv.le]
  refine ⟨fpPack_lt (min_le_right _ _), fun hover => ?_, fun hunder => ?_⟩
  · rw [habs, ← not_lt, ← h.lt_infCode_iff, not_lt] at hover
    exact ⟨neg, by rw [min_eq_right hover]; exact fpVal_fpInf f neg, hsign⟩
  · rw [habs, ← h.lt_infCode_iff] at hunder
    rw [min_eq_left hunder.le, fpPack_even hunder.le]
    refine ⟨neg, _, _, fpVal_fpPack neg hunder, hsign, fun z neg' m' e' hz => ?_⟩
    have hs := h.signed hv (neg != neg') (fpCode f z)
    have hprod : signOf neg' = signOf neg * signOf (neg != neg') := by cases neg <;> cases neg' <;> norm_num
    rw [finVal_of_fpVal hz, finVal_of_fpVal (fpVal_fpPack neg hunder), fpCode_fpPack hunder.le, hprod, mul_assoc]
    push_cast
    simp only [← mul_sub, abs_mul _ (_ - v), abs_signOf_cast, one_mul]
    exact hs.imp_left (congrArg _)

theorem fracWeight_even (f : FpFormat) : 2 ^ fracBits f % 2 = 0 := by cases f <;> decide

/-! ### The nearest code by its place and its significand -/

/-- The value `v` rounded to a multiple `n` of the unit of place `j`, to nearest, ties to even, `v` being below the next
place and, above place 0, not below this one. -/
structure RoundedAt (f : FpFormat) (v : ℝ) (j n : Nat) : Prop where
  pos     : 0 < v
  near    : |n * (2 : ℝ) ^ (minExp f + j) - v| ≤ 2 ^ (minExp f + j) / 2
  even    : |n * (2 : ℝ) ^ (minExp f + j) - v| = 2 ^ (minExp f + j) / 2 → n % 2 = 0
  atLeast : 0 < j → 2 ^ fracBits f * (2 : ℝ) ^ (minExp f + j) ≤ v
  below   : v < 2 * 2 ^ fracBits f * (2 : ℝ) ^ (minExp f + j)

namespace RoundedAt

variable {j n : Nat}

theorem unit_pos (f : FpFormat) (j : Nat) : (0 : ℝ) < 2 ^ (minExp f + j) := zpow_pos two_pos _

theorem significand (h : RoundedAt f v j n) : Significand f j n := by
  have hu := unit_pos f j
  obtain ⟨hlo, hhi⟩ := abs_le.1 h.near
  constructor
  · intro hj
    have hmul : ((2 : ℝ) ^ fracBits f - 1) * 2 ^ (minExp f + j) < n * 2 ^ (minExp f + j) := by linarith [h.atLeast hj]
    have hlt : (2 : ℝ) ^ fracBits f - 1 < n := lt_of_mul_lt_mul_right hmul hu.le
    have : 2 ^ fracBits f < n + 1 := by exact_mod_cast sub_lt_iff_lt_add.1 hlt
    omega
  · have hmul : (n : ℝ) * 2 ^ (minExp f + j) < (2 * 2 ^ fracBits f + 1) * 2 ^ (minExp f + j) := by linarith [h.below]
    have hlt : (n : ℝ) < 2 * 2 ^ fracBits f + 1 := lt_of_mul_lt_mul_right hmul hu.le
    have : n < 2 * 2 ^ fracBits f + 1 := by exact_mod_cast hlt
    omega

theorem value (h : RoundedAt f v j n) :
    (codeVal f (j * 2 ^ fracBits f + n) : ℝ) = n * 2 ^ (minExp f + j) := by
  rw [codeVal_of_significand h.significand]
  push_cast
  rfl

/-- The codes above are a unit away or more. -/
theorem unit_le_above (h : RoundedAt f v j n) {d : Nat} (hd : j * 2 ^ fracBits f + n < d) :
    n * (2 : ℝ) ^ (minExp f + j) + 2 ^ (minExp f + j) ≤ codeVal f d := by
  have hplace : j ≤ codePlace f (j * 2 ^ fracBits f + n) := by
    rcases Nat.eq_zero_or_pos j with rfl | hj
    · exact Nat.zero_le _
    · have := h.significand.hidden hj
      exact Nat.le_sub_one_of_lt ((Nat.le_div_iff_mul_le (Nat.two_pow_pos _)).2 (by rw [Nat.succ_mul]; omega))
  have hexp : (2 : ℝ) ^ (minExp f + j) ≤ 2 ^ codeExp f (j * 2 ^ fracBits f + n) :=
    zpow_le_zpow_right₀ one_le_two (by rw [codeExp]; omega)
  have hsucc := codeVal_le_cast (f := f) (Nat.succ_le_of_lt hd)
  rw [Nat.succ_eq_add_one, codeVal_succ] at hsucc
  push_cast at hsucc
  rw [h.value] at hsucc
  linarith

/-- The codes below are a unit away or more, where `v` is below its rounded value. -/
theorem below_le_unit (h : RoundedAt f v j n) (hv : v < n * (2 : ℝ) ^ (minExp f + j)) {d : Nat}
    (hd : d < j * 2 ^ fracBits f + n) :
    (codeVal f d : ℝ) ≤ n * 2 ^ (minExp f + j) - 2 ^ (minExp f + j) := by
  have hu := unit_pos f j
  have hn : 0 < n := by
    have := lt_of_mul_lt_mul_right ((zero_mul _).trans_lt (h.pos.trans hv)) hu.le
    exact_mod_cast this
  have hs : Significand f j (n - 1) := by
    refine ⟨fun hj => ?_, by have := h.significand.le; omega⟩
    have hlt : (2 : ℝ) ^ fracBits f < n := lt_of_mul_lt_mul_right ((h.atLeast hj).trans_lt hv) hu.le
    have : 2 ^ fracBits f < n := by exact_mod_cast hlt
    omega
  have hle := codeVal_le_cast (f := f) (show d ≤ j * 2 ^ fracBits f + (n - 1) by omega)
  rw [codeVal_of_significand hs, Nat.cast_sub hn] at hle
  push_cast at hle
  linarith

/-- Whatever is half a unit away from `v` or more is farther than the rounded value, or as far and that even. -/
theorem near_or_tie (h : RoundedAt f v j n) {d : ℝ} (hd : 2 ^ (minExp f + j) / 2 ≤ d) :
    |n * (2 : ℝ) ^ (minExp f + j) - v| < d ∨ (|n * (2 : ℝ) ^ (minExp f + j) - v| = d ∧ n % 2 = 0) := by
  rcases (h.near.trans hd).lt_or_eq with hlt | heq
  · exact .inl hlt
  · exact .inr ⟨heq, h.even (le_antisymm h.near (hd.trans heq.ge))⟩

/-- Such a multiple is the nearest code. -/
theorem nearestCode (h : RoundedAt f v j n) : NearestCode f v (j * 2 ^ fracBits f + n) := by
  have hu := unit_pos f j
  have hparity : (j * 2 ^ fracBits f + n) % 2 = n % 2 := by
    rw [Nat.add_mod, Nat.mul_mod, fracWeight_even, Nat.mul_zero, Nat.zero_mod, Nat.zero_add, Nat.mod_mod]
  intro d hd
  rw [h.value, hparity]
  rcases hd.lt_or_gt with hlt | hgt
  · by_cases hv : v < n * 2 ^ (minExp f + j)
    · refine h.near_or_tie ?_
      rw [abs_sub_comm]
      exact le_trans (by linarith [h.below_le_unit hv hlt, (abs_le.1 h.near).2]) (le_abs_self _)
    · have hdv : (codeVal f d : ℝ) < n * 2 ^ (minExp f + j) := h.value ▸ codeVal_lt_cast hlt
      refine .inl ?_
      rw [abs_of_nonpos (by linarith), abs_of_neg (by linarith)]
      linarith
  · exact h.near_or_tie (le_trans (by linarith [h.unit_le_above hgt, (abs_le.1 h.near).1]) (le_abs_self _))

end RoundedAt

end Sys2Proof.Proofs
end

section
/-! `scaleRne` and `roundFp` against the real value that their integer stands for (spec/00_scope.md R13). -/

namespace Sys2Proof.Proofs

open Sys2Proof.Machine

variable {f : FpFormat} {m : Nat} {e k : Int} {x v : ℝ}

/-! ### Rounding to an integer -/

theorem scaleRne_of_nonneg (hk : 0 ≤ k) (m : Nat) : scaleRne m k = m * 2 ^ k.toNat := if_pos hk

/-- With `w` to the unit, `scaleRne` is within half of `w` of `m`, and even at exactly half. -/
theorem scaleRne_of_neg (hk : k < 0) (m : Nat) :
    2 * (scaleRne m k * 2 ^ (-k).toNat) ≤ 2 * m + 2 ^ (-k).toNat ∧
    2 * m ≤ 2 * (scaleRne m k * 2 ^ (-k).toNat) + 2 ^ (-k).toNat ∧
    (2 * (scaleRne m k * 2 ^ (-k).toNat) = 2 * m + 2 ^ (-k).toNat ∨
      2 * m = 2 * (scaleRne m k * 2 ^ (-k).toNat) + 2 ^ (-k).toNat → scaleRne m k % 2 = 0) := by
  have hw : 0 < 2 ^ (-k).toNat := Nat.two_pow_pos _
  have hr : m % 2 ^ (-k).toNat < 2 ^ (-k).toNat := Nat.mod_lt _ hw
  have hm := Nat.div_add_mod' m (2 ^ (-k).toNat)
  have hup := add_one_mul (m / 2 ^ (-k).toNat) (2 ^ (-k).toNat)
  simp only [scaleRne, if_neg hk.not_ge]
  split
  · omega
  · split
    · rcases Nat.mod_two_eq_zero_or_one (m / 2 ^ (-k).toNat) with h0 | h1
      · rw [h0, Nat.add_zero]
        omega
      · rw [h1]
        omega
    · omega

theorem zpow_neg_eq_one_div (hk : k < 0) : (2 : ℝ) ^ k = 1 / 2 ^ (-k).toNat := by
  rw [← zpow_natCast, Int.toNat_of_nonneg (by omega), zpow_neg, one_div, inv_inv]

/-- The rounded integer is within 1/2 of the value, and even at exactly 1/2. -/
structure RoundsToInt (n : Nat) (x : ℝ) : Prop where
  near : |n - x| ≤ 1 / 2
  even : |n - x| = 1 / 2 → n % 2 = 0

/-- The distance times the unit. -/
theorem RoundsToInt.of_mul {n : Nat} {w : ℝ} (hw : 0 < w) (hnear : |n * w - x| ≤ w / 2)
    (heven : |n * w - x| = w / 2 → n % 2 = 0) : RoundsToInt n (x * (1 / w)) := by
  have hdist : |n * w - x| = |n - x * (1 / w)| * w := by
    rw [← abs_of_pos hw, ← abs_mul, abs_of_pos hw, sub_mul, mul_assoc, one_div_mul_cancel hw.ne', mul_one]
  rw [hdist] at hnear heven
  exact ⟨le_of_mul_le_mul_right (by linarith) hw, fun h => heven (by rw [h]; ring)⟩

theorem roundsToInt_scaleRne (m : Nat) (k : Int) : RoundsToInt (scaleRne m k) (m * 2 ^ k) := by
  rcases lt_or_ge k 0 with hk | hk
  · obtain ⟨hup, hlo, heven⟩ := scaleRne_of_neg hk m
    have hup' : 2 * ((scaleRne m k : ℝ) * 2 ^ (-k).toNat) ≤ 2 * m + 2 ^ (-k).toNat := by exact_mod_cast hup
    have hlo' : 2 * (m : ℝ) ≤ 2 * (scaleRne m k * 2 ^ (-k).toNat) + 2 ^ (-k).toNat := by exact_mod_cast hlo
    rw [zpow_neg_eq_one_div hk]
    refine .of_mul (by positivity) (abs_le.2 ⟨by linarith, by linarith⟩) fun h => heven ?_
    rcases eq_or_eq_neg_of_abs_eq h with h | h
    · left; exact_mod_cast (by linarith : 2 * ((scaleRne m k : ℝ) * 2 ^ (-k).toNat) = 2 * m + 2 ^ (-k).toNat)
    · right; exact_mod_cast (by linarith : 2 * (m : ℝ) = 2 * (scaleRne m k * 2 ^ (-k).toNat) + 2 ^ (-k).toNat)
  · have hexact : (scaleRne m k : ℝ) - m * 2 ^ k = 0 := by
      rw [scaleRne_of_nonneg hk, ← Int.toNat_of_nonneg hk, zpow_natCast, Int.toNat_natCast]
      push_cast
      ring
    constructor <;> rw [hexact] <;> norm_num

/-! ### Integers with a sticky bit -/

/-- The integer `m` stands for the number `x` in a rounding to the format: it is `x`, or it is odd, the even integers on
either side of it have `x` between them, and it is long enough for its last bit to be below every boundary. -/
def StandsFor (f : FpFormat) (m : Nat) (x : ℝ) : Prop :=
  x = m ∨ (m % 2 = 1 ∧ fracBits f + 2 ≤ m.log2 ∧ |x - m| < 1)

/-- Such a number has the integer's length. -/
theorem StandsFor.log2_bounds (h : StandsFor f m x) (hm : m ≠ 0) : (2 : ℝ) ^ m.log2 ≤ x ∧ x < 2 * 2 ^ m.log2 := by
  have hlo : 2 ^ m.log2 ≤ m := Nat.log2_self_le hm
  have hhi : m < 2 * 2 ^ m.log2 := by simpa [Nat.pow_succ'] using Nat.lt_log2_self (n := m)
  rcases h with rfl | ⟨hodd, hlong, hx⟩
  · exact ⟨by exact_mod_cast hlo, by exact_mod_cast hhi⟩
  · have heven : 2 ^ m.log2 % 2 = 0 := by
      rw [← Nat.sub_one_add_one (show m.log2 ≠ 0 by omega), Nat.pow_succ, Nat.mul_mod_left]
    have hlo' : (2 : ℝ) ^ m.log2 + 1 ≤ m := by exact_mod_cast (by omega : 2 ^ m.log2 + 1 ≤ m)
    have hhi' : (m : ℝ) + 1 ≤ 2 * 2 ^ m.log2 := by exact_mod_cast (by omega : m + 1 ≤ 2 * 2 ^ m.log2)
    obtain ⟨hl, hr⟩ := abs_lt.1 hx
    exact ⟨by linarith, by linarith⟩

/-- A last bit two places below the unit or more decides no rounding by itself: what an odd integer stands for rounds as
the integer does. -/
theorem roundsToInt_of_sticky (hodd : m % 2 = 1) (hx : |x - m| < 1) (hk : k ≤ -2) :
    RoundsToInt (scaleRne m k) (x * 2 ^ k) := by
  obtain ⟨hup, hlo, -⟩ := scaleRne_of_neg (show k < 0 by omega) m
  have hfour : 2 ^ (-k).toNat = 4 * 2 ^ ((-k).toNat - 2) := by
    conv_lhs => rw [← Nat.sub_add_cancel (show 2 ≤ (-k).toNat by omega), Nat.pow_add', Nat.pow_two]
  have hprod : scaleRne m k * 2 ^ (-k).toNat = 4 * (scaleRne m k * 2 ^ ((-k).toNat - 2)) := by rw [hfour]; ring
  have hup' : ((scaleRne m k * 2 ^ (-k).toNat : Nat) : ℝ) + 1 ≤ m + 2 * (2 ^ ((-k).toNat - 2) : Nat) := by
    exact_mod_cast (by omega : scaleRne m k * 2 ^ (-k).toNat + 1 ≤ m + 2 * 2 ^ ((-k).toNat - 2))
  have hlo' : (m : ℝ) + 1 ≤ (scaleRne m k * 2 ^ (-k).toNat : Nat) + 2 * (2 ^ ((-k).toNat - 2) : Nat) := by
    exact_mod_cast (by omega : m + 1 ≤ scaleRne m k * 2 ^ (-k).toNat + 2 * 2 ^ ((-k).toNat - 2))
  have hfour' : (2 : ℝ) ^ (-k).toNat = 4 * (2 ^ ((-k).toNat - 2) : Nat) := by exact_mod_cast hfour
  push_cast at hup' hlo' hfour'
  obtain ⟨hl, hr⟩ := abs_lt.1 hx
  have hlt : |(scaleRne m k : ℝ) * 2 ^ (-k).toNat - x| < 2 ^ (-k).toNat / 2 := by
    rw [abs_lt]
    constructor <;> linarith
  rw [zpow_neg_eq_one_div (show k < 0 by omega)]
  exact .of_mul (by positivity) hlt.le fun h => absurd h hlt.ne

theorem StandsFor.roundsToInt (h : StandsFor f m x) (hk : k ≤ fracBits f - m.log2) :
    RoundsToInt (scaleRne m k) (x * 2 ^ k) := by
  rcases h with rfl | ⟨hodd, hlong, hx⟩
  · exact roundsToInt_scaleRne m k
  · exact roundsToInt_of_sticky hodd hx (by omega)

/-! ### Rounding to the format -/

/-- The place that `roundFp` rounds at: the leading bit's, and never below the least exponent. -/
def roundPlace (f : FpFormat) (m : Nat) (e : Int) : Nat := (e + m.log2 - fracBits f - minExp f).toNat

/-- The significand that `roundFp` rounds to there. -/
def roundMant (f : FpFormat) (m : Nat) (e : Int) : Nat := scaleRne m (e - (minExp f + roundPlace f m e))

theorem roundFp_zero (f : FpFormat) (neg : Bool) (e : Int) : roundFp f neg 0 e = fpPack f neg 0 := if_pos rfl

theorem roundFp_eq (hm : m ≠ 0) (neg : Bool) (e : Int) : roundFp f neg m e =
    fpPack f neg (min (roundPlace f m e * 2 ^ fracBits f + roundMant f m e) (infCode f)) := by
  have hq : max (minExp f) (e + m.log2 - fracBits f) = minExp f + roundPlace f m e := by
    rw [roundPlace]; omega
  rw [roundFp, if_neg hm]
  simp only [hq, roundMant, add_sub_cancel_left, Int.toNat_natCast]

theorem roundedAt_roundPlace (hm : m ≠ 0) (h : StandsFor f m x) (hv : v = x * 2 ^ e) :
    RoundedAt f v (roundPlace f m e) (roundMant f m e) := by
  obtain ⟨hlo, hhi⟩ := h.log2_bounds hm
  have he : (0 : ℝ) < 2 ^ e := zpow_pos two_pos _
  have hu : (0 : ℝ) < 2 ^ (minExp f + roundPlace f m e) := zpow_pos two_pos _
  have hr := h.roundsToInt (k := e - (minExp f + roundPlace f m e)) (by rw [roundPlace]; omega)
  have hdist : |roundMant f m e * (2 : ℝ) ^ (minExp f + roundPlace f m e) - v| =
      |roundMant f m e - x * 2 ^ (e - (minExp f + roundPlace f m e))| * 2 ^ (minExp f + roundPlace f m e) := by
    rw [hv, ← abs_of_pos hu, ← abs_mul, abs_of_pos hu, sub_mul, mul_assoc, ← zpow_add₀ two_ne_zero, sub_add_cancel]
  refine ⟨?_, ?_, fun heq => hr.even ?_, fun hj => ?_, ?_⟩
  · rw [hv]
    exact mul_pos (lt_of_lt_of_le (by positivity) hlo) he
  · rw [hdist]
    calc _ ≤ 1 / 2 * (2 : ℝ) ^ (minExp f + roundPlace f m e) := mul_le_mul_of_nonneg_right hr.near hu.le
      _ = _ := by ring
  · rw [hdist] at heq
    exact mul_right_cancel₀ hu.ne' (heq.trans (by ring))
  · have hexp : (fracBits f : Int) + (minExp f + roundPlace f m e) = m.log2 + e := by rw [roundPlace] at hj ⊢; omega
    rw [hv, ← zpow_natCast, ← zpow_add₀ two_ne_zero, hexp, zpow_add₀ two_ne_zero, zpow_natCast]
    exact mul_le_mul_of_nonneg_right hlo he.le
  · have hexp : (m.log2 : Int) + e ≤ fracBits f + (minExp f + roundPlace f m e) := by rw [roundPlace]; omega
    calc v < 2 * 2 ^ m.log2 * 2 ^ e := by rw [hv]; exact mul_lt_mul_of_pos_right hhi he
      _ = 2 * (2 : ℝ) ^ ((m.log2 : Int) + e) := by rw [zpow_add₀ two_ne_zero, zpow_natCast, mul_assoc]
      _ ≤ 2 * (2 : ℝ) ^ (fracBits f + (minExp f + roundPlace f m e)) :=
        mul_le_mul_of_nonneg_left (zpow_le_zpow_right₀ one_le_two hexp) two_pos.le
      _ = _ := by rw [zpow_add₀ two_ne_zero, zpow_natCast, mul_assoc]

/-- `roundFp` rounds every number that its integer stands for. -/
theorem roundsTo_roundFp_of_standsFor (hm : m ≠ 0) (h : StandsFor f m x) (neg : Bool) (e : Int) :
    RoundsTo f (signOf neg * (x * 2 ^ e)) (roundFp f neg m e) := by
  have hr := roundedAt_roundPlace (e := e) hm h rfl
  rw [roundFp_eq hm]
  exact hr.nearestCode.roundsTo hr.pos neg

theorem roundsTo_roundFp (hm : m ≠ 0) (neg : Bool) (e : Int) : RoundsTo f (finVal neg m e) (roundFp f neg m e) := by
  have h := roundsTo_roundFp_of_standsFor (f := f) hm (.inl rfl) neg e
  rw [finVal_eq]
  push_cast
  exact h

/-- A finite code is what its own significand and exponent round to. -/
theorem roundFp_codeMant {c : Nat} (hc : c < infCode f) (neg : Bool) :
    roundFp f neg (codeMant f c) (codeExp f c) = fpPack f neg c := by
  by_cases hm : codeMant f c = 0
  · have h0 : c = 0 := (codeVal_strictMono f).injective (by rw [codeVal_eq, hm, codeVal_zero]; simp)
    rw [hm, h0, roundFp_zero]
  · have hv : (codeVal f c : ℝ) = codeMant f c * 2 ^ codeExp f c := by rw [codeVal_eq]; push_cast; rfl
    have hr := (roundedAt_roundPlace (f := f) hm (.inl rfl) hv).nearestCode
    rw [roundFp_eq hm, hr.eq_of_codeVal, min_eq_left hc.le]

/-- Settles O29: `scaleRne` by its distance in units, `roundFp` by the nearest code it packs. -/
theorem roundsToNearestEven : Obligations.RoundsToNearestEven := by
  refine ⟨fun m k => ?_, fun f neg m e hm => roundsTo_roundFp hm neg e, roundFp_zero⟩
  obtain ⟨hnear, heven⟩ := roundsToInt_scaleRne m k
  have hcast : (scaleRne m k : ℝ) - m * 2 ^ k = ((scaleRne m k - m * 2 ^ k : ℚ) : ℝ) := by push_cast; rfl
  have hhalf : (1 / 2 : ℝ) = ((1 / 2 : ℚ) : ℝ) := by norm_num
  rw [hcast, hhalf, ← Rat.cast_abs] at hnear heven
  exact ⟨Rat.cast_le.1 hnear, fun h => heven (congrArg _ h)⟩

/-- Settles O31: an encoding is a sign and a code, and a finite code is the nearest one to its own value. -/
theorem roundingIsExactOnTheFormat : Obligations.RoundingIsExactOnTheFormat := by
  intro f x neg m e hx h
  obtain ⟨hc, rfl, rfl, rfl⟩ := code_of_fpVal_fin h
  rw [roundFp_codeMant hc, fpPack_code_sign hx]

end Sys2Proof.Proofs
end

section
/-! The five operations on finite operands are the exact result rounded once: the quotient and the root by a sticky bit
below enough bits of the result (spec/00_scope.md R13). -/

namespace Sys2Proof.Proofs

open Sys2Proof.Machine

variable {f : FpFormat} {m : Nat} {e : Int}

/-! ### The values of signed significands -/

theorem finVal_eq_zero {neg : Bool} : finVal neg m e = 0 ↔ m = 0 := by
  have he : (2 : ℚ) ^ e ≠ 0 := zpow_ne_zero _ two_ne_zero
  rw [finVal_eq]
  cases neg <;> simp [he]

/-- A value that is not 0 has the sign of its sign bit. -/
theorem finVal_pos {neg : Bool} : 0 < finVal neg m e ↔ neg = false ∧ m ≠ 0 := by
  have hv : 0 ≤ (m : ℚ) * 2 ^ e := by positivity
  have h0 : 0 < (m : ℚ) * 2 ^ e ↔ m ≠ 0 := by
    rw [hv.lt_iff_ne, ne_comm, mul_ne_zero_iff, Nat.cast_ne_zero, and_iff_left (zpow_ne_zero _ two_ne_zero)]
  rw [finVal_eq]
  cases neg with
  | false => simpa using h0
  | true => simpa using hv

theorem finVal_not (neg : Bool) (m : Nat) (e : Int) : finVal (!neg) m e = -finVal neg m e := by
  rw [finVal_eq, finVal_eq]
  cases neg <;> simp

theorem finVal_neg {neg : Bool} : finVal neg m e < 0 ↔ neg = true ∧ m ≠ 0 := by
  rw [← neg_pos, ← finVal_not, finVal_pos, Bool.not_eq_false']

/-! ### Integers, sums and products -/

theorem finVal_natAbs (n e : Int) : finVal (decide (n < 0)) n.natAbs e = n * 2 ^ e := by
  rw [finVal_eq, ← mul_assoc]
  congr 1
  by_cases hn : n < 0
  · have habs : ((n.natAbs : Int) : ℚ) = ((-n : Int) : ℚ) := by rw [Int.ofNat_natAbs_of_nonpos hn.le]
    rw [decide_eq_true hn, signOf_true, ← Int.cast_natCast, habs]
    push_cast
    ring
  · have habs : ((n.natAbs : Int) : ℚ) = (n : ℚ) := by rw [Int.natAbs_of_nonneg (by omega)]
    rw [decide_eq_false hn, signOf_false, ← Int.cast_natCast, habs, one_mul]

theorem roundsTo_roundFp_int {n : Int} (hn : n ≠ 0) (e : Int) :
    RoundsTo f (n * 2 ^ e : ℚ) (roundFp f (n < 0) n.natAbs e) := by
  rw [← finVal_natAbs]
  exact roundsTo_roundFp (Int.natAbs_ne_zero.2 hn) _ e

/-- The significands of a sum, on the smaller exponent, added. -/
def alignedSum (na : Bool) (ma : Nat) (ea : Int) (nb : Bool) (mb : Nat) (eb : Int) : Int :=
  (if na then -(ma * 2 ^ (ea - min ea eb).toNat : Int) else ma * 2 ^ (ea - min ea eb).toNat) +
  (if nb then -(mb * 2 ^ (eb - min ea eb).toNat : Int) else mb * 2 ^ (eb - min ea eb).toNat)

variable {na nb : Bool} {ma mb : Nat} {ea eb : Int}

theorem addFinite_eq (f : FpFormat) : addFinite f na ma ea nb mb eb =
    if alignedSum na ma ea nb mb eb = 0 then fpPack f (na && nb) 0
    else roundFp f (alignedSum na ma ea nb mb eb < 0) (alignedSum na ma ea nb mb eb).natAbs (min ea eb) := rfl

/-- A significand moved to an exponent that is no larger. -/
theorem finVal_aligned {e' : Int} (h : e' ≤ e) (neg : Bool) (m : Nat) :
    ((if neg then -(m * 2 ^ (e - e').toNat : Int) else m * 2 ^ (e - e').toNat : Int) : ℚ) * 2 ^ e' = finVal neg m e := by
  have hpow : (2 : ℚ) ^ e = 2 ^ (e - e').toNat * 2 ^ e' := by
    rw [← zpow_natCast, ← zpow_add₀ two_ne_zero, Int.toNat_of_nonneg (by omega), sub_add_cancel]
  rw [finVal_eq, hpow]
  cases neg
  · simp [mul_assoc]
  · simp [mul_assoc]

theorem alignedSum_value :
    (alignedSum na ma ea nb mb eb : ℚ) * 2 ^ min ea eb = finVal na ma ea + finVal nb mb eb := by
  rw [← finVal_aligned (min_le_left ea eb) na ma, ← finVal_aligned (min_le_right ea eb) nb mb, alignedSum, Int.cast_add,
    add_mul]

theorem alignedSum_eq_zero : alignedSum na ma ea nb mb eb = 0 ↔ finVal na ma ea + finVal nb mb eb = 0 := by
  rw [← alignedSum_value, mul_eq_zero_iff_right (zpow_ne_zero _ two_ne_zero), Int.cast_eq_zero]

theorem roundsTo_addFinite (h : finVal na ma ea + finVal nb mb eb ≠ 0) :
    RoundsTo f (finVal na ma ea + finVal nb mb eb : ℚ) (addFinite f na ma ea nb mb eb) := by
  have h0 : alignedSum na ma ea nb mb eb ≠ 0 := fun h0 => h (alignedSum_eq_zero.1 h0)
  rw [addFinite_eq, if_neg h0, ← alignedSum_value]
  exact roundsTo_roundFp_int h0 _

theorem addFinite_of_sum_eq_zero (h : finVal na ma ea + finVal nb mb eb = 0) :
    addFinite f na ma ea nb mb eb = fpPack f (na && nb) 0 := by
  rw [addFinite_eq, if_pos (alignedSum_eq_zero.2 h)]

theorem finVal_mul : finVal (na != nb) (ma * mb) (ea + eb) = finVal na ma ea * finVal nb mb eb := by
  rw [finVal_eq, finVal_eq, finVal_eq, signOf_bne, zpow_add₀ two_ne_zero]
  push_cast
  ring

/-! ### Sticky bits -/

/-- Twice a number, from its integer part and one bit that says whether there is more. -/
theorem standsFor_sticky {p : Nat} {t : ℝ} {whole : Prop} [Decidable whole] (hle : (p : ℝ) ≤ t) (hlt : t < p + 1)
    (hwhole : whole ↔ t = p) (hlong : 2 ^ (fracBits f + 1) ≤ p) :
    StandsFor f (2 * p + if whole then 0 else 1) (2 * t) := by
  by_cases h : whole
  · rw [if_pos h, hwhole.1 h]
    exact .inl (by push_cast; ring)
  · have hne : (p : ℝ) < t := hle.lt_of_ne fun heq => h (hwhole.2 heq.symm)
    have hlog : fracBits f + 2 ≤ (2 * p + 1).log2 := (Nat.le_log2 (by omega)).2 (by rw [Nat.pow_succ]; omega)
    rw [if_neg h]
    refine .inr ⟨by omega, hlog, ?_⟩
    push_cast
    rw [abs_lt]
    constructor <;> linarith

/-! ### The quotient -/

theorem standsFor_quotient {n d : Nat} (hd : 0 < d) (hlong : 2 ^ (fracBits f + 1) * d ≤ n) :
    StandsFor f (2 * (n / d) + if n % d = 0 then 0 else 1) (2 * (n / d : ℝ)) := by
  have hd' : (0 : ℝ) < d := Nat.cast_pos.2 hd
  refine standsFor_sticky Nat.cast_div_le ?_ ?_ ((Nat.le_div_iff_mul_le hd).2 hlong)
  · rw [div_lt_iff₀ hd', add_one_mul]
    exact_mod_cast Nat.lt_div_mul_add hd
  · rw [div_eq_iff hd'.ne', ← Nat.cast_mul, Nat.cast_inj, ← Nat.dvd_iff_mod_eq_zero, eq_comm]
    exact ⟨Nat.div_mul_cancel, fun h => ⟨n / d, by rw [Nat.mul_comm, h]⟩⟩

theorem roundsTo_divFinite (neg : Bool) (hma : ma ≠ 0) (hmb : mb ≠ 0) :
    RoundsTo f (signOf neg * (ma * 2 ^ ea / (mb * 2 ^ eb)) : ℚ) (divFinite f neg ma ea mb eb) := by
  have hlong : 2 ^ (fracBits f + 1) * mb ≤ ma * 2 ^ (fracBits f + 4 + mb.log2) := by
    calc 2 ^ (fracBits f + 1) * mb ≤ 2 ^ (fracBits f + 1) * 2 ^ (mb.log2 + 1) :=
          Nat.mul_le_mul_left _ Nat.lt_log2_self.le
      _ = 2 ^ (fracBits f + mb.log2 + 2) := by rw [← Nat.pow_add]; congr 1; omega
      _ ≤ 2 ^ (fracBits f + 4 + mb.log2) := Nat.pow_le_pow_right two_pos (by omega)
      _ ≤ ma * 2 ^ (fracBits f + 4 + mb.log2) := Nat.le_mul_of_pos_left _ (Nat.pos_of_ne_zero hma)
  have hs := standsFor_quotient (Nat.pos_of_ne_zero hmb) hlong
  have hq : 0 < ma * 2 ^ (fracBits f + 4 + mb.log2) / mb :=
    (Nat.two_pow_pos _).trans_le ((Nat.le_div_iff_mul_le (Nat.pos_of_ne_zero hmb)).2 hlong)
  have hr := roundsTo_roundFp_of_standsFor (by omega) hs neg
    (ea - eb - ((fracBits f + 4 + mb.log2 : Nat) : Int) - 1)
  have hval : 2 * (((ma * 2 ^ (fracBits f + 4 + mb.log2) : Nat) : ℝ) / mb) *
      2 ^ (ea - eb - ((fracBits f + 4 + mb.log2 : Nat) : Int) - 1) = ma * 2 ^ ea / (mb * 2 ^ eb) := by
    have hmb' : (mb : ℝ) ≠ 0 := Nat.cast_ne_zero.2 hmb
    rw [zpow_sub_one₀ two_ne_zero, zpow_sub₀ two_ne_zero, zpow_sub₀ two_ne_zero, zpow_natCast]
    push_cast
    field_simp
  rw [hval] at hr
  push_cast
  exact hr

/-- A zero divided is a zero: no quotient bit and no sticky bit. -/
theorem divFinite_zero (f : FpFormat) (neg : Bool) (ea eb : Int) (mb : Nat) :
    divFinite f neg 0 ea mb eb = fpPack f neg 0 := by
  simp [divFinite, roundFp_zero]

theorem finVal_div :
    signOf (na != nb) * (ma * 2 ^ ea / (mb * 2 ^ eb)) = finVal na ma ea / finVal nb mb eb := by
  rw [finVal_eq, finVal_eq, signOf_bne, mul_div_mul_comm (signOf na)]
  congr 1
  cases nb <;> simp [div_neg]

/-! ### The square root -/

/-- The bits found so far stay below the root, and what is left of the search stays above it. -/
theorem isqrtFrom_spec {n : Nat} (i : Nat) : ∀ r, r * r ≤ n → n < (r + 2 ^ i) * (r + 2 ^ i) →
    isqrtFrom n i r * isqrtFrom n i r ≤ n ∧ n < (isqrtFrom n i r + 1) * (isqrtFrom n i r + 1) := by
  induction i with
  | zero => exact fun r hle hlt => ⟨hle, hlt⟩
  | succ i ih =>
    intro r hle hlt
    rw [isqrtFrom]
    split
    · next hbit =>
      refine ih _ hbit ?_
      rwa [Nat.add_assoc, ← Nat.two_mul, ← Nat.pow_succ']
    · next hbit => exact ih _ hle (not_le.1 hbit)

theorem isqrt_spec (n : Nat) : isqrt n * isqrt n ≤ n ∧ n < (isqrt n + 1) * (isqrt n + 1) := by
  refine isqrtFrom_spec _ 0 (Nat.zero_le n) ?_
  calc n < 2 ^ (n.log2 + 1) := Nat.lt_log2_self
    _ ≤ 2 ^ ((n.log2 / 2 + 1) + (n.log2 / 2 + 1)) := Nat.pow_le_pow_right two_pos (by omega)
    _ = _ := by rw [Nat.pow_add, Nat.zero_add]

theorem standsFor_root {n : Nat} (hlong : 2 ^ (fracBits f + 1) ≤ isqrt n) :
    StandsFor f (2 * isqrt n + if isqrt n * isqrt n = n then 0 else 1) (2 * √n) := by
  obtain ⟨hle, hlt⟩ := isqrt_spec n
  have hr : (0 : ℝ) ≤ isqrt n := Nat.cast_nonneg _
  refine standsFor_sticky ?_ ?_ ?_ hlong
  · exact Real.le_sqrt_of_sq_le (by rw [sq]; exact_mod_cast hle)
  · rw [Real.sqrt_lt' (by linarith), sq]
    exact_mod_cast hlt
  · rw [Real.sqrt_eq_iff_mul_self_eq (Nat.cast_nonneg n) hr]
    norm_cast
    exact eq_comm

/-- The shift that `sqrtFinite` makes room for its root with: as odd as the exponent. -/
def rootShift (f : FpFormat) (e : Int) : Nat := 2 * fracBits f + 8 + (e % 2).toNat

theorem two_pow_le_isqrt (hm : m ≠ 0) : 2 ^ (fracBits f + 1) ≤ isqrt (m * 2 ^ rootShift f e) := by
  by_contra hlt
  have hsucc : isqrt (m * 2 ^ rootShift f e) + 1 ≤ 2 ^ (fracBits f + 1) := not_le.1 hlt
  have hbig : m * 2 ^ rootShift f e < m * 2 ^ rootShift f e := by
    calc m * 2 ^ rootShift f e
      _ < _ := (isqrt_spec _).2
      _ ≤ 2 ^ (fracBits f + 1) * 2 ^ (fracBits f + 1) := Nat.mul_le_mul hsucc hsucc
      _ = 2 ^ (2 * fracBits f + 2) := by rw [← Nat.pow_add]; congr 1; omega
      _ ≤ 2 ^ rootShift f e := Nat.pow_le_pow_right two_pos (by rw [rootShift]; omega)
      _ ≤ m * 2 ^ rootShift f e := Nat.le_mul_of_pos_left _ (Nat.pos_of_ne_zero hm)
  exact hbig.false

theorem sqrt_shifted (f : FpFormat) (m : Nat) (e : Int) :
    2 * √((m * 2 ^ rootShift f e : Nat) : ℝ) * 2 ^ ((e - rootShift f e) / 2 - 1) = √(m * 2 ^ e) := by
  have hhalf : e = rootShift f e + ((e - rootShift f e) / 2 + (e - rootShift f e) / 2) := by
    have hpar := Int.emod_nonneg e two_ne_zero
    simp only [rootShift]
    omega
  have hsplit : (m : ℝ) * 2 ^ e = (m * 2 ^ rootShift f e : Nat) * (2 ^ ((e - rootShift f e) / 2)) ^ 2 := by
    conv_lhs => rw [hhalf, zpow_add₀ two_ne_zero, zpow_add₀ two_ne_zero, zpow_natCast]
    push_cast
    ring
  rw [hsplit, Real.sqrt_mul (Nat.cast_nonneg _), Real.sqrt_sq (zpow_pos two_pos _).le, zpow_sub_one₀ two_ne_zero]
  ring

theorem roundsTo_sqrtFinite (hm : m ≠ 0) (e : Int) : RoundsTo f √(m * 2 ^ e) (sqrtFinite f m e) := by
  have hlong := two_pow_le_isqrt (f := f) (e := e) hm
  have hpos := (Nat.two_pow_pos _).trans_le hlong
  have hr := roundsTo_roundFp_of_standsFor (by omega) (standsFor_root hlong) false ((e - rootShift f e) / 2 - 1)
  rw [sqrt_shifted, signOf_false, Rat.cast_one, one_mul] at hr
  exact hr

end Sys2Proof.Proofs
end

section
/-! The floating-point operations on every operand: correctly rounded on finite ones, the special values of IEEE 754
otherwise, and one NaN (spec/00_scope.md R13). -/

namespace Sys2Proof.Proofs

open Sys2Proof.Machine

/-! ### Finite operands -/

section Finite

variable {f : FpFormat} {a b : Fp} {na nb : Bool} {ma mb : Nat} {ea eb : Int}

theorem fadd_rounds (ha : fpVal f a = .fin na ma ea) (hb : fpVal f b = .fin nb mb eb) :
    (finVal na ma ea + finVal nb mb eb ≠ 0 → RoundsTo f (finVal na ma ea + finVal nb mb eb : ℚ) (fadd f a b)) ∧
    (finVal na ma ea + finVal nb mb eb = 0 → fadd f a b = fpPack f (na && nb) 0) := by
  rw [fadd, ha, hb, addVal]
  exact ⟨roundsTo_addFinite, addFinite_of_sum_eq_zero⟩

theorem fsub_rounds (ha : fpVal f a = .fin na ma ea) (hb : fpVal f b = .fin nb mb eb) :
    (finVal na ma ea - finVal nb mb eb ≠ 0 → RoundsTo f (finVal na ma ea - finVal nb mb eb : ℚ) (fsub f a b)) ∧
    (finVal na ma ea - finVal nb mb eb = 0 → fsub f a b = fpPack f (na && !nb) 0) := by
  rw [fsub, ha, hb, negVal, addVal, sub_eq_add_neg, ← finVal_not]
  exact ⟨roundsTo_addFinite, addFinite_of_sum_eq_zero⟩

theorem fmul_rounds (ha : fpVal f a = .fin na ma ea) (hb : fpVal f b = .fin nb mb eb) :
    (finVal na ma ea * finVal nb mb eb ≠ 0 → RoundsTo f (finVal na ma ea * finVal nb mb eb : ℚ) (fmul f a b)) ∧
    (finVal na ma ea * finVal nb mb eb = 0 → fmul f a b = fpPack f (na != nb) 0) := by
  rw [fmul, ha, hb, mulVal, ← finVal_mul, Ne, finVal_eq_zero]
  refine ⟨fun h => roundsTo_roundFp h _ _, fun h => ?_⟩
  rw [h, roundFp_zero]

theorem fdiv_rounds (ha : fpVal f a = .fin na ma ea) (hb : fpVal f b = .fin nb mb eb) :
    (finVal na ma ea ≠ 0 → finVal nb mb eb ≠ 0 → RoundsTo f (finVal na ma ea / finVal nb mb eb : ℚ) (fdiv f a b)) ∧
    (finVal na ma ea = 0 → finVal nb mb eb ≠ 0 → fdiv f a b = fpPack f (na != nb) 0) ∧
    (finVal na ma ea ≠ 0 → finVal nb mb eb = 0 → fdiv f a b = fpInf f (na != nb)) ∧
    (finVal na ma ea = 0 → finVal nb mb eb = 0 → fdiv f a b = fpNaN f) := by
  rw [fdiv, ha, hb, divVal]
  simp only [ne_eq, finVal_eq_zero]
  refine ⟨fun hx hy => ?_, fun hx hy => ?_, fun hx hy => ?_, fun hx hy => ?_⟩
  · rw [if_neg hy, ← finVal_div]
    exact roundsTo_divFinite _ hx hy
  · rw [if_neg hy, hx, divFinite_zero]
  · rw [if_pos hy, if_neg hx]
  · rw [if_pos hy, if_pos hx]

theorem fsqrt_rounds (ha : fpVal f a = .fin na ma ea) :
    (0 < finVal na ma ea → RoundsTo f √(finVal na ma ea : ℚ) (fsqrt f a)) ∧
    (finVal na ma ea = 0 → fsqrt f a = fpPack f na 0) ∧ (finVal na ma ea < 0 → fsqrt f a = fpNaN f) := by
  rw [fsqrt, ha, sqrtVal, finVal_eq_zero, finVal_pos, finVal_neg]
  refine ⟨?_, fun h => if_pos h, fun ⟨hneg, hm⟩ => by rw [if_neg hm, if_pos hneg]⟩
  rintro ⟨rfl, hm⟩
  rw [if_neg hm, if_neg Bool.false_ne_true, finVal_eq, signOf_false, one_mul]
  push_cast
  exact roundsTo_sqrtFinite hm ea

end Finite

/-! ### A NaN operand -/

section NaN

variable (f : FpFormat)

@[simp] theorem addVal_nan_left (v : FpVal) : addVal f .nan v = fpNaN f := rfl
@[simp] theorem mulVal_nan_left (v : FpVal) : mulVal f .nan v = fpNaN f := rfl
@[simp] theorem divVal_nan_left (v : FpVal) : divVal f .nan v = fpNaN f := rfl
@[simp] theorem addVal_nan_right (u : FpVal) : addVal f u .nan = fpNaN f := by cases u <;> rfl
@[simp] theorem mulVal_nan_right (u : FpVal) : mulVal f u .nan = fpNaN f := by cases u <;> rfl
@[simp] theorem divVal_nan_right (u : FpVal) : divVal f u .nan = fpNaN f := by cases u <;> rfl

theorem nan_operand {a b : Fp} (h : fpVal f a = .nan ∨ fpVal f b = .nan) :
    fadd f a b = fpNaN f ∧ fsub f a b = fpNaN f ∧ fmul f a b = fpNaN f ∧ fdiv f a b = fpNaN f := by
  rcases h with h | h <;> simp [fadd, fsub, fmul, fdiv, negVal, h]

end NaN

/-! ### Infinite operands -/

section Infinite

variable {f : FpFormat} {a b : Fp} {na nb : Bool} {m : Nat} {e : Int}

theorem inf_inf (ha : fpVal f a = .inf na) (hb : fpVal f b = .inf nb) :
    fadd f a b = (if na = nb then fpInf f na else fpNaN f) ∧ fsub f a b = (if na = nb then fpNaN f else fpInf f na) ∧
    fmul f a b = fpInf f (na != nb) ∧ fdiv f a b = fpNaN f := by
  rw [fadd, fsub, fmul, fdiv, ha, hb]
  refine ⟨rfl, ?_, rfl, rfl⟩
  cases na <;> cases nb <;> rfl

theorem inf_fin (ha : fpVal f a = .inf na) (hb : fpVal f b = .fin nb m e) :
    fadd f a b = fpInf f na ∧ fsub f a b = fpInf f na ∧
    fmul f a b = (if m = 0 then fpNaN f else fpInf f (na != nb)) ∧ fdiv f a b = fpInf f (na != nb) := by
  rw [fadd, fsub, fmul, fdiv, ha, hb]
  exact ⟨rfl, rfl, rfl, rfl⟩

theorem fin_inf (ha : fpVal f a = .fin na m e) (hb : fpVal f b = .inf nb) :
    fadd f a b = fpInf f nb ∧ fsub f a b = fpInf f (!nb) ∧
    fmul f a b = (if m = 0 then fpNaN f else fpInf f (na != nb)) ∧ fdiv f a b = fpPack f (na != nb) 0 := by
  rw [fadd, fsub, fmul, fdiv, ha, hb]
  exact ⟨rfl, rfl, rfl, rfl⟩

end Infinite

/-! ### Conversions -/

theorem roundsTo_fpInt (f : FpFormat) {n : Int} (hn : n ≠ 0) : RoundsTo f n (fpInt f n) := by
  have h := roundsTo_roundFp_int (f := f) hn 0
  rw [zpow_zero, mul_one, Rat.cast_intCast] at h
  exact h

theorem roundsTo_fpPow2 (f : FpFormat) (n : Int) : RoundsTo f (2 ^ n : ℚ) (fpPow2 f n) := by
  have h := roundsTo_roundFp (f := f) one_ne_zero false n
  rwa [finVal_eq, signOf_false, Nat.cast_one, one_mul, one_mul] at h

/-- Settles O30, operation by operation on finite operands, and by the special values on the others. -/
theorem operationsAreCorrectlyRounded : Obligations.OperationsAreCorrectlyRounded := by
  refine ⟨?_, fun f neg => ⟨fpVal_fpNaN f, fpVal_fpInf f neg, fpVal_zero f neg⟩, fun f a b => ?_,
    fun f n => roundsTo_fpInt f, roundsTo_fpPow2⟩
  · rintro f a b na nb ma mb ea eb _ _ ha hb rfl rfl
    obtain ⟨hadd, hadd0⟩ := fadd_rounds ha hb
    obtain ⟨hsub, hsub0⟩ := fsub_rounds ha hb
    obtain ⟨hmul, hmul0⟩ := fmul_rounds ha hb
    obtain ⟨hdiv, hdiv0, hdivInf, hdivNaN⟩ := fdiv_rounds ha hb
    exact ⟨hadd, hadd0, hsub, hsub0, hmul, hmul0, hdiv, hdiv0, hdivInf, hdivNaN, fsqrt_rounds ha⟩
  · exact ⟨nan_operand f, fun ha => by rw [fsqrt, ha, sqrtVal], fun _ _ => inf_inf, fun _ _ _ _ => inf_fin,
      fun _ _ _ _ => fin_inf, fun _ ha => by rw [fsqrt, ha, sqrtVal]⟩

/-! ### One NaN -/

/-- An encoding that, where it is a NaN, is the canonical one. -/
def CanonicalNaN (f : FpFormat) (r : Fp) : Prop := fpVal f r = .nan → r = fpNaN f

section Canonical

variable (f : FpFormat)

theorem canonicalNaN_fpNaN : CanonicalNaN f (fpNaN f) := fun _ => rfl

theorem canonicalNaN_fpInf (neg : Bool) : CanonicalNaN f (fpInf f neg) := fun h =>
  nomatch (fpVal_fpInf f neg).symm.trans h

theorem canonicalNaN_fpPack (neg : Bool) {c : Nat} (hc : c ≤ infCode f) : CanonicalNaN f (fpPack f neg c) := by
  rcases hc.lt_or_eq with hlt | rfl
  · exact fun h => nomatch (fpVal_fpPack neg hlt).symm.trans h
  · exact canonicalNaN_fpInf f neg

theorem canonicalNaN_zero (neg : Bool) : CanonicalNaN f (fpPack f neg 0) := canonicalNaN_fpPack f neg (Nat.zero_le _)

/-- A rounding gives no NaN. -/
theorem canonicalNaN_roundFp (neg : Bool) (m : Nat) (e : Int) : CanonicalNaN f (roundFp f neg m e) := by
  by_cases hm : m = 0
  · rw [hm, roundFp_zero]
    exact canonicalNaN_zero f neg
  · rw [roundFp_eq hm]
    exact canonicalNaN_fpPack f neg (min_le_right _ _)

theorem canonicalNaN_ite {p : Prop} [Decidable p] {r s : Fp} (hr : CanonicalNaN f r) (hs : CanonicalNaN f s) :
    CanonicalNaN f (if p then r else s) := by
  split
  · exact hr
  · exact hs

theorem canonicalNaN_addVal : ∀ u v, CanonicalNaN f (addVal f u v)
  | .nan, _ => canonicalNaN_fpNaN f
  | .inf _, .nan => canonicalNaN_fpNaN f
  | .fin _ _ _, .nan => canonicalNaN_fpNaN f
  | .inf na, .inf _ => canonicalNaN_ite f (canonicalNaN_fpInf f na) (canonicalNaN_fpNaN f)
  | .inf na, .fin _ _ _ => canonicalNaN_fpInf f na
  | .fin _ _ _, .inf nb => canonicalNaN_fpInf f nb
  | .fin _ _ _, .fin _ _ _ => canonicalNaN_ite f (canonicalNaN_zero f _) (canonicalNaN_roundFp f _ _ _)

theorem canonicalNaN_mulVal : ∀ u v, CanonicalNaN f (mulVal f u v)
  | .nan, _ => canonicalNaN_fpNaN f
  | .inf _, .nan => canonicalNaN_fpNaN f
  | .fin _ _ _, .nan => canonicalNaN_fpNaN f
  | .inf _, .inf _ => canonicalNaN_fpInf f _
  | .inf _, .fin _ _ _ => canonicalNaN_ite f (canonicalNaN_fpNaN f) (canonicalNaN_fpInf f _)
  | .fin _ _ _, .inf _ => canonicalNaN_ite f (canonicalNaN_fpNaN f) (canonicalNaN_fpInf f _)
  | .fin _ _ _, .fin _ _ _ => canonicalNaN_roundFp f _ _ _

theorem canonicalNaN_divVal : ∀ u v, CanonicalNaN f (divVal f u v)
  | .nan, _ => canonicalNaN_fpNaN f
  | .inf _, .nan => canonicalNaN_fpNaN f
  | .fin _ _ _, .nan => canonicalNaN_fpNaN f
  | .inf _, .inf _ => canonicalNaN_fpNaN f
  | .inf _, .fin _ _ _ => canonicalNaN_fpInf f _
  | .fin _ _ _, .inf _ => canonicalNaN_zero f _
  | .fin _ _ _, .fin _ _ _ => canonicalNaN_ite f
      (canonicalNaN_ite f (canonicalNaN_fpNaN f) (canonicalNaN_fpInf f _)) (canonicalNaN_roundFp f _ _ _)

theorem canonicalNaN_sqrtVal : ∀ v, CanonicalNaN f (sqrtVal f v)
  | .nan => canonicalNaN_fpNaN f
  | .inf _ => canonicalNaN_ite f (canonicalNaN_fpNaN f) (canonicalNaN_fpInf f false)
  | .fin n _ _ => canonicalNaN_ite f (canonicalNaN_zero f n)
      (canonicalNaN_ite f (canonicalNaN_fpNaN f) (canonicalNaN_roundFp f _ _ _))

end Canonical

/-- Settles O32: a result is a packed code up to `infCode`, which is no NaN, or the canonical NaN itself. -/
theorem naNResultsAreCanonical : Obligations.NaNResultsAreCanonical :=
  ⟨by decide, by decide, fun f _ _ => ⟨canonicalNaN_addVal f _ _, canonicalNaN_addVal f _ _, canonicalNaN_mulVal f _ _,
    canonicalNaN_divVal f _ _, canonicalNaN_sqrtVal f _⟩⟩

end Sys2Proof.Proofs
end

section
/-! The host window as the host sees it: what a step of an admitted access does, what each offset returns, and the
fields of the words it returns (spec/10_state.md R23 to R37). -/

namespace Sys2Proof.Proofs

open Sys2Proof.Machine

variable {s : State} {a : BitVec 12} {v : Word} {d : Word} {rest : List Input}

/-! ### An admitted access -/

theorem accessFault_of_aligned (ha : a.toNat % 4 = 0) : accessFault 4 a = none := by
  rw [accessFault, if_neg (by simp), if_neg (by simpa using ha)]

theorem step_hostRead (ha : a.toNat % 4 = 0) (hi : s.inputs = .hostRead 4 a :: rest) :
    step s = .next (hostRead a { s with inputs := rest }) := by
  simp only [step, hi, accessFault_of_aligned ha]

/-- An admitted write outside CMD is a register write (R63). -/
theorem step_hostWrite (ha : a.toNat % 4 = 0) (hi : s.inputs = .hostWrite 4 a v :: rest) (hcmd : a ≠ 0x000#12) :
    step s = .next (hostWrite a v { s with inputs := rest }) := by
  simp only [step, hi, accessFault_of_aligned ha, writeAccess, if_neg hcmd]

/-- A write outside CMD changes at most EVENT and IRQ_EN (R26, R27, R37). -/
theorem hostWrite_eq (a : BitVec 12) (v : Word) (s : State) :
    hostWrite a v s = { s with event := (hostWrite a v s).event, irqEn := (hostWrite a v s).irqEn } := by
  unfold hostWrite
  split
  · rfl
  · split <;> rfl

theorem hostWrite_other (h8 : a ≠ 0x008#12) (hC : a ≠ 0x00C#12) : hostWrite a v s = s := by
  rw [hostWrite, if_neg h8, if_neg hC]

/-- Settles O47: by the offset, EVENT, IRQ_EN or neither. -/
theorem hostWrites : Obligations.HostWrites := by
  intro s a v rest ha hi
  refine ⟨?_, ?_, fun h0 h8 hC => by rw [step_hostWrite ha hi h0, hostWrite_other h8 hC]⟩
  · rintro rfl
    exact ⟨_, step_hostWrite ha hi (by decide), fun k hk => by simp [hk]⟩
  · rintro rfl
    exact ⟨_, step_hostWrite ha hi (by decide), fun k hk => by simp [hk]⟩

/-! ### What the offsets return -/

/-- Above the registers there are the data windows, and nothing else (R23, R37). -/
theorem windowRead_above {n : Nat} (hn : 0x024 < n) :
    s.windowRead n d = if isDataOffset n then (if s.dataShown n then s.mem.read32 n else d) else 0#32 := by
  unfold State.windowRead
  iterate 10 rw [if_neg (by omega)]

theorem isDataOffset_iff (n : Nat) :
    isDataOffset n = true ↔ (0x100 ≤ n ∧ n < 0x300) ∨ (0x400 ≤ n ∧ n < 0x600) := by
  simp [isDataOffset]

theorem windowRead_unmapped {n : Nat} (hn : 0x024 < n)
    (h : ¬ ((0x100 ≤ n ∧ n < 0x300) ∨ (0x400 ≤ n ∧ n < 0x600))) : s.windowRead n d = 0#32 := by
  rw [windowRead_above hn, if_neg (mt (isDataOffset_iff n).1 h)]

/-- A data window returns its word while its validity bit is 1, the free value otherwise (R33 to R36, R49). -/
theorem windowRead_data {n : Nat} (h : (0x100 ≤ n ∧ n < 0x300) ∨ (0x400 ≤ n ∧ n < 0x600)) :
    s.windowRead n d = if s.dataShown n then s.mem.read32 n else d := by
  rw [windowRead_above (by omega), if_pos ((isDataOffset_iff n).2 h)]

/-! ### The fields of CONFIG, PTAT and CP -/

theorem extractLsb'_append_low {m n : Nat} (x : BitVec m) (y : BitVec n) : (x ++ y).extractLsb' 0 n = y := by
  rw [BitVec.extractLsb'_append_eq_of_add_le (by omega), BitVec.extractLsb'_eq_self]

theorem extractLsb'_append_high {m n : Nat} (x : BitVec m) (y : BitVec n) : (x ++ y).extractLsb' n m = x := by
  rw [BitVec.extractLsb'_append_eq_of_le le_rfl, Nat.sub_self, BitVec.extractLsb'_eq_self]

/-- The three fields of CONFIG (R28). -/
theorem configWord_fields (s : State) (d : Word) :
    (s.configWord d).extractLsb' 20 12 = 0#12 ∧
      (s.configWord d).extractLsb' 16 4 = (if s.rateValid then s.rateCode else d.extractLsb' 16 4) ∧
      (s.configWord d).extractLsb' 0 16 = if s.cfgShown then s.cfgMsb ++ s.cfgLsb else d.extractLsb' 0 16 := by
  unfold State.configWord
  refine ⟨?_, ?_, extractLsb'_append_low _ _⟩
  · rw [BitVec.extractLsb'_append_eq_of_le (by omega)]
    exact extractLsb'_append_high _ _
  · rw [BitVec.extractLsb'_append_eq_of_le le_rfl]
    exact extractLsb'_append_low _ _

/-- The two halves of a 16-bit data register (R29, R30). -/
theorem halfWord_fields (shown : Bool) (x : Half) (d : Word) :
    (halfWord shown x d).extractLsb' 16 16 = 0#16 ∧
      (halfWord shown x d).extractLsb' 0 16 = if shown then x else d.extractLsb' 0 16 := by
  unfold halfWord
  constructor <;> split <;>
  · apply BitVec.eq_of_getLsbD_eq
    intro i hi
    simp [hi, show i < 32 by omega]

/-- Settles O48: the value returned is `windowRead`, offset by offset. -/
theorem hostReadsRegisters : Obligations.HostReadsRegisters := by
  intro s a rest d ha hi hd
  subst hd
  refine ⟨s.windowRead a.toNat _, step_hostRead ha hi, ?cmd, ?status, ?event, ?irqEn, ?config, ?ptat, ?cp, ?count,
    ?taLow, ?taHigh, fun _ => rfl, fun h => windowRead_unmapped (by omega) (by omega)⟩
  case config => rintro rfl; exact configWord_fields s _
  case ptat => rintro rfl; exact halfWord_fields _ _ _
  case cp => rintro rfl; exact halfWord_fields _ _ _
  all_goals rintro rfl; rfl

/-! ### The packing of the data windows -/

/-- Two 16-bit elements as one word, the second the less significant one. -/
theorem append_halves (b3 b2 b1 b0 : Byte) : ((b3 ++ b2) ++ (b1 ++ b0) : Word) = b3 ++ b2 ++ b1 ++ b0 := by
  rw [BitVec.append_assoc (x₁ := b3 ++ b2)]
  rfl

/-- An element of EE by its index. -/
theorem ee_ofNat {k : Nat} (hk : k < 256) : s.ee (BitVec.ofNat 8 k) = s.mem.read (0x100 + k) := by
  rw [State.ee, BitVec.toNat_ofNat, Nat.mod_eq_of_lt hk]
  rfl

/-- Two neighbouring 16-bit elements are the word at the first one's address (R34, R35). -/
theorem read16_append_read16 (m : Memory) (n : Nat) : (m.read16 (n + 2) ++ m.read16 n : Word) = m.read32 n :=
  append_halves _ _ _ _

theorem dataShown_ee {n : Nat} (h : n < 0x200) : s.dataShown n = s.eeValid := if_pos h

theorem dataShown_ir {n : Nat} (h1 : 0x200 ≤ n) (h2 : n < 0x280) : s.dataShown n = s.irValid :=
  (if_neg h1.not_gt).trans (if_pos h2)

theorem dataShown_frame {n : Nat} (h : 0x280 ≤ n) : s.dataShown n = s.frameValid :=
  (if_neg (by simp only [irBase]; omega)).trans (if_neg h.not_gt)

/-- Settles O49: a word of each window, its validity bit 1, is the bytes at its address. -/
theorem dataWindows : Obligations.DataWindows := by
  intro s d
  refine ⟨fun w hw => ?_, fun w hw => ?_, fun w hw => ?_, fun l hl => ⟨?_, ?_⟩⟩
  · rw [windowRead_data (by omega), dataShown_ee (by omega), ee_ofNat (by omega),
      ee_ofNat (by omega), ee_ofNat (by omega), ee_ofNat (by omega)]
    rfl
  · rw [windowRead_data (by omega), dataShown_ir (by omega) (by omega), State.ir, State.ir,
      show irBase + 2 * (2 * w + 1) = 0x200 + 4 * w + 2 by simp only [irBase]; omega,
      show irBase + 2 * (2 * w) = 0x200 + 4 * w by simp only [irBase]; omega, read16_append_read16]
  · rw [windowRead_data (by omega), dataShown_frame (by omega), State.enc, State.enc,
      show encBase + 2 * (2 * w + 1) = 0x280 + 4 * w + 2 by simp only [encBase]; omega,
      show encBase + 2 * (2 * w) = 0x280 + 4 * w by simp only [encBase]; omega, read16_append_read16]
  · rw [windowRead_data (by omega), dataShown_frame (by omega), State.temp, extractLsb'_append_low]
    rfl
  · rw [windowRead_data (by omega), dataShown_frame (by omega), State.temp, extractLsb'_append_high]
    rfl

/-! ### STATUS and the interrupt level -/

/-- The interrupt is high exactly when an enabled EVENT bit is pending (R300). -/
theorem irq_iff (s : State) : s.irq = true ↔ ∃ k < 5, s.event.getLsbD k = true ∧ s.irqEn.getLsbD k = true := by
  rw [State.irq, bne_iff_ne]
  constructor
  · intro hne
    by_contra hno
    refine hne (BitVec.eq_of_getLsbD_eq fun k hk => ?_)
    rw [BitVec.getLsbD_and, BitVec.getLsbD_zero, Bool.and_eq_false_iff]
    by_contra hk2
    simp only [not_or, Bool.not_eq_false] at hk2
    exact hno ⟨k, hk, hk2⟩
  · rintro ⟨k, -, hev, hen⟩ h0
    have hand := congrArg (·.getLsbD k) h0
    simp [hev, hen] at hand

/-- The fields of STATUS that are wider than a bit: each begins where the widths below it end (R25). -/
theorem statusWord_fields (s : State) :
    s.statusWord.extractLsb' 1 3 = loopCode s.loopState ∧ s.statusWord.extractLsb' 16 8 = causeCode s.lastCause ∧
      s.statusWord.extractLsb' 24 7 = s.busAddr := by
  unfold State.statusWord
  refine ⟨?_, ?_, ?_⟩ <;>
    simp (disch := decide) only [BitVec.extractLsb'_append_eq_of_le, Nat.reduceSub, extractLsb'_append_low]
  rfl

theorem getLsbD_ofBool_zero (b : Bool) : (BitVec.ofBool b).getLsbD 0 = b := by cases b <;> rfl

/-- Settles O50: STATUS is its fields side by side, the codes those of R44 and R290. -/
theorem statusLayoutAndInterruptLevel : Obligations.StatusLayoutAndInterruptLevel := by
  intro s
  obtain ⟨hloop, hcause, haddr⟩ := statusWord_fields s
  refine ⟨irq_iff s, ?_, ?_, ?_⟩
  · refine hloop.trans ?_
    cases s.loopState <;> rfl
  · refine hcause.trans ?_
    cases s.lastCause <;> rfl
  · rw [haddr]
    simp only [State.statusWord, BitVec.getLsbD_append, Nat.reduceLT, Nat.reduceSub, if_true, if_false,
      getLsbD_ofBool_zero, BitVec.getLsbD_zero, and_self]

end Sys2Proof.Proofs
end

section
/-! What a move of the sequencer does to the data stores, FRAME_COUNT and the emissions of the trace, said once:
nothing, one transaction's commit, or one emission; and from it what every step keeps of them. -/

namespace Sys2Proof.Proofs

open Sys2Proof.Machine

/-! ### What the shared operations leave alone -/

/-- The end of a session changes the session, its clock and the trace. -/
theorem endSession_eq (s : State) :
    endSession s = { s with
      trace := (endSession s).trace
      sessionOpen := (endSession s).sessionOpen
      busClk := (endSession s).busClk } := by
  unfold endSession
  split <;> rfl

/-- `ComputeTa` commits TA and what tells of it (R210). -/
theorem commitTa_eq (s : State) :
    commitTa s = { s with
      ta := (commitTa s).ta
      taShown := (commitTa s).taShown
      taValid := (commitTa s).taValid } := by
  unfold commitTa
  split <;> rfl

/-- Only RUN commits anything with its acceptance (R256). -/
theorem beforeAccept_eq (i : Instr) (s : State) :
    beforeAccept i s = { s with
      loopState := (beforeAccept i s).loopState
      retryCnt := (beforeAccept i s).retryCnt } := by
  unfold beforeAccept startRun
  split
  · split <;> rfl
  · rfl

/-! ### Moves that touch no data store -/

/-- `t` has the data stores, FRAME_COUNT and the emissions of `s`. -/
structure SameStores (s t : State) : Prop where
  mem   : t.mem = s.mem
  count : t.frameCount = s.frameCount
  emits : emissions t.trace = emissions s.trace

theorem SameStores.trans {s t u : State} (h : SameStores s t) (k : SameStores t u) : SameStores s u :=
  ⟨k.mem.trans h.mem, k.count.trans h.count, k.emits.trans h.emits⟩

/-- `trans`, the later part first. -/
theorem SameStores.after {s t u : State} (k : SameStores t u) (h : SameStores s t) : SameStores s u := h.trans k

theorem sameStores_deliver (res : OpResult) (k : Cont) (s : State) : SameStores s (deliver res k s) := by
  rw [deliver_eq]
  exact ⟨rfl, rfl, rfl⟩

theorem sameStores_setAddr (o : BusOp) (s : State) : SameStores s (s.setAddr o) := ⟨rfl, rfl, rfl⟩

theorem sameStores_endSession (s : State) : SameStores s (endSession s) := by
  unfold endSession
  split <;> exact ⟨rfl, rfl, rfl⟩

theorem sameStores_shutdown (c : Cause) (s : State) : SameStores s (shutdown c s) :=
  (sameStores_endSession s).trans ⟨rfl, rfl, rfl⟩

theorem sameStores_commitTa (s : State) : SameStores s (commitTa s) := by
  rw [commitTa_eq]
  exact ⟨rfl, rfl, rfl⟩

theorem sameStores_retryThenWait (c : Cause) (w : WaitKind) (p : Pause) (s : State) :
    SameStores s (retryThenWait c w p s) := by
  unfold retryThenWait
  split <;> exact ⟨rfl, rfl, rfl⟩

theorem sameStores_beginOp (o : BusOp) (k : Cont) (s : State) : SameStores s (beginOp o k s) := by
  unfold beginOp
  split
  · exact ⟨rfl, rfl, rfl⟩
  · exact sameStores_deliver _ k s

theorem sameStores_afterWarn (n : AfterWarn) (s : State) : SameStores s (afterWarn n s) := by
  cases n <;> exact ⟨rfl, rfl, rfl⟩

theorem sameStores_afterInit (i : InitCaller) (s : State) : SameStores s (afterInit i s) := by
  cases i <;> simp only [afterInit]
  case faultedPhase => split <;> exact ⟨rfl, rfl, rfl⟩
  all_goals exact ⟨rfl, rfl, rfl⟩

theorem sameStores_afterPause (p : Pause) (s : State) : SameStores s (afterPause p s) := by
  unfold afterPause
  split
  · exact ⟨rfl, rfl, rfl⟩
  · cases p <;> exact ⟨rfl, rfl, rfl⟩

theorem sameStores_beforeAccept (i : Instr) (s : State) : SameStores s (beforeAccept i s) := by
  rw [beforeAccept_eq]
  exact ⟨rfl, rfl, rfl⟩

theorem sameStores_hostWrite (a : BitVec 12) (v : Word) (s : State) : SameStores s (hostWrite a v s) := by
  rw [hostWrite_eq]
  exact ⟨rfl, rfl, rfl⟩

/-- What one move can do to the stores: it takes a frame's answer, emits a frame, or leaves them (R75). -/
theorem seqStep_stores (s : State) :
    (∃ o, seqStep s = transact o s) ∨ (∃ q, seqStep s = { emission s with seq := q }) ∨
      SameStores s (seqStep s) := by
  cases hq : s.seq <;> simp only [seqStep, hq]
  case bus o k => exact .inl ⟨o, rfl⟩
  case computeFrame =>
    split
    · exact .inr (.inl ⟨_, rfl⟩)
    · exact .inr (.inr ⟨rfl, rfl, rfl⟩)
  case cycleFrame =>
    split
    · exact .inr (.inl ⟨_, rfl⟩)
    · exact .inr (.inr ⟨rfl, rfl, rfl⟩)
  all_goals refine .inr (.inr ?_)
  case shutdown c => exact sameStores_shutdown c s
  case closeSession => exact (sameStores_endSession s).trans ⟨rfl, rfl, rfl⟩
  case openSession k => split <;> exact ⟨rfl, rfl, rfl⟩
  case op o k => exact sameStores_beginOp o k s
  case warning c n => exact (sameStores_afterWarn n _).after ⟨rfl, rfl, rfl⟩
  case initDone i => exact sameStores_afterInit i s
  case computeTa => split <;> exact (sameStores_commitTa s).trans ⟨rfl, rfl, rfl⟩
  case ambientTa a => split <;> exact (sameStores_commitTa s).trans ⟨rfl, rfl, rfl⟩
  case ambientRetry c => exact (sameStores_retryThenWait _ _ _ _).after ⟨rfl, rfl, rfl⟩
  case faultedPhase => exact (sameStores_retryThenWait _ _ _ _).after ⟨rfl, rfl, rfl⟩
  case pause p => exact sameStores_afterPause p s
  all_goals exact ⟨rfl, rfl, rfl⟩

/-! ### Transactions -/

/-- A transaction emits nothing. -/
theorem transaction_emits (o : BusOp) (s : State) :
    (transaction o s).frameCount = s.frameCount ∧ emissions (transaction o s).trace = emissions s.trace := by
  unfold transaction
  cases o <;> cases s.busAnswer _ <;> exact ⟨rfl, rfl⟩

/-- A transaction stores a response in EE or in RAW_IR, or leaves the memory (R121, R126). -/
theorem transaction_mem (o : BusOp) (s : State) :
    (transaction o s).mem = s.mem ∨
      ∃ a bs, 0x100 ≤ a ∧ a + bs.length ≤ 0x280 ∧ (transaction o s).mem = s.mem.writeBlock a bs := by
  unfold transaction
  cases hr : s.busAnswer o.respLen with
  | none => exact .inl (by cases o <;> rfl)
  | some bs =>
    have hl := busAnswer_length hr
    cases o
    case eeDump => exact .inr ⟨eeBase, bs, by decide, by rw [hl]; decide, rfl⟩
    case irRead => exact .inr ⟨irBase, bs, by decide, by rw [hl]; decide, rfl⟩
    all_goals exact .inl rfl

/-! ### What every step keeps of the stores -/

/-- A property of the stores that a stored response, an emission and a reset keep is kept by every step. -/
theorem stepKeeps_of_stores {P : State → Prop} (same : ∀ s t, SameStores s t → P s → P t)
    (answer : ∀ o s, P s → P (transaction o s)) (emit : ∀ s, P s → P (emission s))
    (reset : ∀ s, P s → P (blockReset s)) : StepKeeps P := by
  have frame : ∀ s o, P s → P (transact o s) := by
    intro s o h
    unfold transact
    split
    · exact same _ _ (sameStores_deliver _ _ _) (answer o s h)
    · exact answer o _ (same _ _ (sameStores_setAddr o s) h)
  exact {
    grant := fun s rest => same s _ ⟨rfl, rfl, rfl⟩
    move := fun s h _ => by
      rcases seqStep_stores s with ⟨o, e⟩ | ⟨q, e⟩ | hs
      · exact e ▸ frame s o h
      · exact e ▸ same (emission s) _ ⟨rfl, rfl, rfl⟩ (emit s h)
      · exact same _ _ hs h
    frame := fun s o h _ => frame s o h
    accept := fun s i h _ _ => same _ _ ((sameStores_beforeAccept i s).trans ⟨rfl, rfl, rfl⟩) h
    reject := fun s c => same s _ ⟨rfl, rfl, rfl⟩
    stopBusy := fun s h _ => same s _ ⟨rfl, rfl, rfl⟩ h
    stopIdle := fun s h _ => same s _ ((sameStores_shutdown .stopped _).after ⟨rfl, rfl, rfl⟩) h
    deferred := fun s h _ => same s _ (sameStores_shutdown .stopped s) h
    read := fun s a => same s _ ⟨rfl, rfl, rfl⟩
    write := fun s a v => same s _ (sameStores_hostWrite a v s)
    reset := reset }

/-! ### The canonical memory -/

/-- A store inside the data windows keeps the memory inside them. -/
theorem mapped_writeBlock {m : Memory} {a : Nat} {bs : List Byte} (hm : ∀ c ∈ m, isDataOffset c.1 = true)
    (ha : ∀ x, a ≤ x → x < a + bs.length → isDataOffset x = true) :
    ∀ c ∈ m.writeBlock a bs, isDataOffset c.1 = true := by
  intro c hc
  rcases Memory.mem_writeBlock hc with hc | ⟨hc, -⟩
  · obtain ⟨hle, hlt, -⟩ := Memory.mem_cells hc
    exact ha _ hle hlt
  · exact hm c hc

/-- The bytes of TEMP of a frame. -/
theorem tempBytes_length (s : State) : (s.frame.flatMap fpBytes).length = 512 := by
  rw [length_flatMap_const fpBytes_length, frame_length]

/-- The bytes of OUT_ENC of a frame. -/
theorem encBytes_length (s : State) : ((frameEncs s.params.fpFormat s.frame).flatMap halfBytes).length = 128 := by
  rw [length_flatMap_const halfBytes_length, frameEncs, List.length_map, frame_length]

/-- The memory is canonical and inside the data stores. -/
def MemCanonical (s : State) : Prop := s.mem.wf ∧ s.memMapped

theorem MemCanonical.of_writeBlock {s t : State} {a : Nat} {bs : List Byte} (h : MemCanonical s)
    (ha : ∀ x, a ≤ x → x < a + bs.length → isDataOffset x = true) (ht : t.mem = s.mem.writeBlock a bs) :
    MemCanonical t := by
  rw [MemCanonical, State.memMapped, ht]
  exact ⟨Memory.wf_writeBlock _ _ _ h.1, mapped_writeBlock h.2 ha⟩

theorem memCanonical_transaction (o : BusOp) (s : State) (h : MemCanonical s) : MemCanonical (transaction o s) := by
  rcases transaction_mem o s with e | ⟨a, bs, hlo, hhi, e⟩
  · rwa [MemCanonical, State.memMapped, e]
  · exact h.of_writeBlock (fun x _ _ => (isDataOffset_iff x).2 (by omega)) e

theorem memCanonical_emission (s : State) (h : MemCanonical s) : MemCanonical (emission s) := by
  have htemp : MemCanonical { s with mem := s.mem.writeBlock tempBase (s.frame.flatMap fpBytes) } :=
    h.of_writeBlock (fun x h1 h2 => (isDataOffset_iff x).2 (by
      rw [tempBytes_length] at h2; simp only [tempBase] at h1 h2; omega)) rfl
  exact htemp.of_writeBlock (fun x h1 h2 => (isDataOffset_iff x).2 (by
    rw [encBytes_length] at h2; simp only [encBase] at h1 h2; omega)) rfl

theorem memCanonical_keeps : StepKeeps MemCanonical :=
  stepKeeps_of_stores (fun s t e h => by rwa [MemCanonical, State.memMapped, e.mem]) memCanonical_transaction
    memCanonical_emission fun _ _ => ⟨⟨.nil, nofun⟩, nofun⟩

/-- Settles O55: every store of a step is `writeBlock` inside a data window. -/
theorem memoryStaysCanonical : Obligations.MemoryStaysCanonical :=
  fun _ _ hwf hmap hstep => memCanonical_keeps.step ⟨hwf, hmap⟩ hstep

/-! ### The emissions -/

/-- OUT_ENC's bytes are read from the memory of OUT_ENC alone. -/
theorem frameBytes_congr {s t : State} (h : ∀ a, 0x280 ≤ a → a < 0x300 → t.mem.read a = s.mem.read a) :
    t.frameBytes = s.frameBytes :=
  List.map_congr_left fun k hk => by
    have hk' : k < 2 * Config.nPix := List.mem_range.1 hk
    rw [Config.nPix_eq] at hk'
    exact h _ (by simp only [encBase]; omega) (by simp only [encBase]; omega)

/-- With OUT_ENC, FRAME_COUNT and the emissions kept, the agreement is. -/
theorem emissionsAgree_congr {s t : State} (hb : t.frameBytes = s.frameBytes) (hc : t.frameCount = s.frameCount)
    (he : emissions t.trace = emissions s.trace) (h : s.emissionsAgree) : t.emissionsAgree := by
  rwa [State.emissionsAgree, hc, he, hb]

theorem emissionsAgree_transaction (o : BusOp) (s : State) (h : s.emissionsAgree) :
    (transaction o s).emissionsAgree := by
  obtain ⟨hc, he⟩ := transaction_emits o s
  refine emissionsAgree_congr (frameBytes_congr fun x hx _ => ?_) hc he h
  rcases transaction_mem o s with e | ⟨a, bs, -, hhi, e⟩
  · rw [e]
  · rw [e, Memory.read_writeBlock, if_neg (by omega)]

/-- An emission counts one more, and its frame is OUT_ENC's bytes (R229). -/
theorem emissionsAgree_emission (s : State) (h : s.emissionsAgree) : (emission s).emissionsAgree := by
  refine ⟨?_, fun f hf => (Option.some.inj hf).symm⟩
  show s.frameCount + 1#32 = BitVec.ofNat 32 ((emissions s.trace).length + 1)
  rw [h.1, BitVec.ofNat_add]

theorem emissionsAgree_keeps : StepKeeps State.emissionsAgree :=
  stepKeeps_of_stores
    (fun _ _ e => emissionsAgree_congr (frameBytes_congr fun a _ _ => by rw [e.mem]) e.count e.emits)
    emissionsAgree_transaction emissionsAgree_emission fun _ _ => ⟨rfl, nofun⟩

/-- Settles O59; soundness is not needed, the agreement is kept by itself. -/
theorem emissionsAgreeKept : Obligations.EmissionsAgreeKept :=
  fun _ _ _ hagree hstep => emissionsAgree_keeps.step hagree hstep

end Sys2Proof.Proofs
end

section
/-! The validity bits that the sequencer's position relies on stay valid. The argument needs of soundness only that a
frame on the port is the position's own, so that no other transaction clears a bit (spec/10_state.md R49,
spec/44_acquisition.md R267). -/

namespace Sys2Proof.Proofs

open Sys2Proof.Machine

/-! ### The port -/

/-- An idle block has no position, the port holds the position's frame and none else, and the data the position
relies on is valid. -/
structure Supplied (s : State) : Prop where
  idle  : s.busy = false → s.seq = .idle
  port  : s.busPort = s.seq.port
  ready : s.dataReady = true

theorem Supplied.of_sound {s : State} (h : s.Sound) (hd : s.dataReady = true) : Supplied s :=
  ⟨fun hb => by simpa [hb] using h.busy, h.port, hd⟩

/-- A position with no frame on the port, reached without ending the command. -/
theorem Supplied.of_move {t : State} (hb : t.busy = true) (hp : t.busPort = none) (hq : t.seq.port = none)
    (hd : t.dataReady = true) : Supplied t :=
  ⟨fun hf => absurd (hb.symm.trans hf) nofun, hp.trans hq.symm, hd⟩

/-- A command that has ended. -/
theorem Supplied.of_idle {t : State} (hq : t.seq = .idle) (hp : t.busPort = none) : Supplied t :=
  ⟨fun _ => hq, by rw [hp, hq]; rfl, by simp only [State.dataReady, hq]⟩

theorem supplied_shutdown (c : Cause) (s : State) : Supplied (shutdown c s) := .of_idle rfl rfl

/-- The bytes of a frame are those of no other. -/
theorem bytes_injective {o o' : BusOp} (h : o.bytes = o'.bytes) : o = o' := by
  have hf : o.frame = o'.frame := by
    have := decodeFrame_bytes o
    rw [h, decodeFrame_bytes o'] at this
    exact (Except.ok.inj this).symm
  cases o <;> cases o' <;> cases hf <;> rfl

/-- The position of a frame on the port is the operation that sent it. -/
theorem Supplied.bus_of_port {s : State} {o : BusOp} (h : Supplied s) (hp : s.busPort = some o.bytes) :
    ∃ k, s.seq = .bus o k := by
  rw [h.port] at hp
  cases hq : s.seq <;> simp only [hq, Seq.port, reduceCtorEq, Option.some.injEq] at hp
  case bus o' k => exact ⟨k, by rw [bytes_injective hp]⟩

/-! ### Where an operation leads -/

/-- The answer to an operation's frame keeps the bits that the operation's place relies on. -/
theorem dataReady_commitAnswer {o : BusOp} {k : Cont} {s : State} (r : Option (List Byte)) (hs : k.sends o = true)
    (h : k.dataReady s = true) : k.dataReady (commitAnswer o r s) = true := by
  cases o
  case eeDump =>
    match k, hs with
    | .command, _ => rfl
    | .initEeprom _, _ => rfl
  case cpRead =>
    match k, hs with
    | .command, _ => rfl
    | .cycleCp, _ => cases r <;> exact h
  all_goals cases r <;> exact h

/-- An operation that fails goes on where nothing more than EE is relied on, and EE only where it was. -/
theorem dataReady_deliver_fail {k : Cont} {s : State} (c : Cause) (h : k.dataReady s = true) :
    (deliver (.fail c) k s).dataReady = true :=
  match k with
  | .command => rfl
  | .checkPor => rfl
  | .rateRead _ .command => rfl
  | .rateRead _ (.initSeq _) => h
  | .rateWrite _ .command => rfl
  | .rateWrite _ (.initSeq _) => h
  | .initEeprom i => by cases i <;> rfl
  | .initTrim i => by cases i <;> rfl
  | .initConfig i => by cases i <;> rfl
  | .initVerify _ => h
  | .cyclePor => h
  | .ambientPtat _ => rfl
  | .cycleCp => rfl
  | .cycleIr => rfl

/-- An operation that succeeds goes on where the data it has read is relied on, beside what its place relies on. -/
theorem dataReady_deliver_ok {o : BusOp} {k : Cont} {s : State} (bs : List Byte) (hs : k.sends o = true)
    (h : k.dataReady s = true) : (deliver .ok k (commitAnswer o (some bs) s)).dataReady = true :=
  match k, o, hs with
  | .command, _, _ => rfl
  | .checkPor, .cfgRead, _ => by simp only [deliver]; split <;> rfl
  | .rateRead _ .command, .cfgRead, _ => rfl
  | .rateRead _ (.initSeq _), .cfgRead, _ => h
  | .rateWrite _ .command, .cfgWrite _ _ _ _, _ => rfl
  | .rateWrite _ (.initSeq _), .cfgWrite _ _ _ _, _ => h
  | .initEeprom _, .eeDump, _ => rfl
  | .initTrim _, .trimWrite _ _, _ => h
  | .initConfig _, .cfgWrite _ _ _ _, _ => h
  | .initVerify _, .cfgRead, _ => h
  | .cyclePor, .cfgRead, _ => by
    simp only [deliver]
    split
    · rfl
    · exact h
  | .ambientPtat _, .ptatRead, _ => by simpa [deliver, commitAnswer, State.dataReady, Cont.dataReady] using h
  | .cycleCp, .cpRead, _ => by simpa [deliver, commitAnswer, State.dataReady, Cont.sends, Cont.dataReady] using h
  | .cycleIr, .irRead, _ => by simpa [deliver, commitAnswer, State.dataReady, Cont.dataReady] using h

/-- A result sends no frame by itself: the position that it leads to has none on the port. -/
theorem deliver_seq_port (res : OpResult) (k : Cont) (s : State) : (deliver res k s).seq.port = none := by
  cases k <;> cases res <;> simp only [deliver]
  case checkPor.ok => split <;> rfl
  case cyclePor.ok => split <;> rfl
  case rateRead.fail k _ => cases k <;> rfl
  case rateWrite.fail k _ => cases k <;> rfl
  case initEeprom.fail i _ => cases i <;> rfl
  case initTrim.fail i _ => cases i <;> rfl
  case initConfig.fail i _ => cases i <;> rfl
  all_goals rfl

@[simp] theorem deliver_busy (res : OpResult) (k : Cont) (s : State) : (deliver res k s).busy = s.busy := by
  rw [deliver_eq]

@[simp] theorem deliver_busPort (res : OpResult) (k : Cont) (s : State) : (deliver res k s).busPort = s.busPort := by
  rw [deliver_eq]

@[simp] theorem transaction_busy (o : BusOp) (s : State) : (transaction o s).busy = s.busy := by
  unfold transaction
  cases o <;> cases s.busAnswer _ <;> rfl

@[simp] theorem transaction_busPort (o : BusOp) (s : State) : (transaction o s).busPort = none := by
  unfold transaction
  cases o <;> cases s.busAnswer _ <;> rfl

/-- The frame of the position, answered. -/
theorem supplied_transact {s : State} {o : BusOp} {k : Cont} (h : Supplied s) (hq : s.seq = .bus o k) :
    Supplied (transact o s) := by
  have hb : s.busy = true := by
    cases hb : s.busy
    · rw [h.idle hb] at hq; cases hq
    · rfl
  have hready := h.ready
  simp only [State.dataReady, hq, Bool.and_eq_true] at hready
  obtain ⟨hs, hk⟩ := hready
  rw [transact_bus hq]
  refine .of_move (by simpa using hb) (by simp) (deliver_seq_port _ _ _) ?_
  unfold transaction
  cases s.busAnswer o.respLen with
  | none => exact dataReady_deliver_fail _ (dataReady_commitAnswer none hs hk)
  | some bs => exact dataReady_deliver_ok bs hs hk

/-! ### The moves -/

@[simp] theorem endSession_busy (s : State) : (endSession s).busy = s.busy := by rw [endSession_eq]
@[simp] theorem endSession_busPort (s : State) : (endSession s).busPort = s.busPort := by rw [endSession_eq]
@[simp] theorem commitTa_busy (s : State) : (commitTa s).busy = s.busy := by rw [commitTa_eq]
@[simp] theorem commitTa_busPort (s : State) : (commitTa s).busPort = s.busPort := by rw [commitTa_eq]
@[simp] theorem commitTa_eeValid (s : State) : (commitTa s).eeValid = s.eeValid := by rw [commitTa_eq]

/-- `ComputeTa` returns `Ok` only with EE_VALID, and leaves TA_VALID 1 then (R210). -/
theorem valid_of_taResult {s : State} (h : taResult s = .ok) :
    s.eeValid = true ∧ (commitTa s).taValid = true := by
  unfold taResult at h
  split at h
  · cases h
  · next he =>
    split at h
    · cases h
    · next hp =>
      split at h
      · next ht =>
        simp only [Bool.not_eq_true', Bool.not_eq_false] at he hp
        exact ⟨he, by simpa [commitTa, he, hp] using ht⟩
      · cases h

section Moves

variable {s : State} (hb : s.busy = true) (hp : s.busPort = none)
include hb hp

theorem supplied_beginOp {o : BusOp} {k : Cont} (hs : k.sends o = true) (hk : k.dataReady s = true) :
    Supplied (beginOp o k s) := by
  unfold beginOp
  split
  · exact .of_move hb hp rfl (Bool.and_eq_true_iff.2 ⟨hs, hk⟩)
  · exact .of_move (by simpa using hb) (by simpa using hp) (deliver_seq_port _ _ _) (dataReady_deliver_fail _ hk)

theorem supplied_retryThenWait (c : Cause) {w : WaitKind} {p : Pause} (hc : p ≠ .cycle) :
    Supplied (retryThenWait c w p s) := by
  unfold retryThenWait
  split
  · exact .of_move hb hp rfl rfl
  · cases p
    case cycle => exact absurd rfl hc
    all_goals exact .of_move hb hp rfl rfl

theorem supplied_afterWarn (n : AfterWarn) (he : s.eeValid = true) : Supplied (afterWarn n s) := by
  cases n
  case faultedPhase => exact .of_move hb hp rfl rfl
  all_goals exact .of_move hb hp rfl he

theorem supplied_afterInit (i : InitCaller) (he : s.eeValid = true) : Supplied (afterInit i s) := by
  cases i <;> simp only [afterInit] <;> split
  case initPhase.isFalse => exact .of_move hb hp rfl he
  case faultedPhase.isFalse => exact .of_move hb hp rfl he
  all_goals exact .of_move hb hp rfl rfl

theorem supplied_afterPause (p : Pause) (he : p = .cycle → s.eeValid = true) : Supplied (afterPause p s) := by
  unfold afterPause
  split
  · exact .of_move hb hp rfl rfl
  · cases p
    case cycle => exact .of_move hb hp rfl (he rfl)
    all_goals exact .of_move hb hp rfl rfl

/-- The ambient step: where it passes, TA_VALID is 1 (R259). -/
theorem supplied_ambientTa {a : AmbientCaller} (hq : s.seq = .ambientTa a) : Supplied (seqStep s) := by
  simp only [seqStep, hq]
  split
  · next hr =>
    obtain ⟨he, ht⟩ := valid_of_taResult hr
    cases a
    · exact .of_move (by simpa using hb) (by simpa using hp) rfl (by simpa [afterAmbient, State.dataReady] using he)
    · exact .of_move (by simpa using hb) (by simpa using hp) rfl
        (by simpa [afterAmbient, State.dataReady, Cont.sends, Cont.dataReady] using ⟨he, ht⟩)
  · exact .of_move (by simpa using hb) (by simpa using hp) rfl rfl

end Moves

/-- Every move leads from a position whose data is valid to one whose data is valid. -/
theorem supplied_seqStep {s : State} (h : Supplied s) (hb : s.busy = true) : Supplied (seqStep s) := by
  have hd := h.ready
  by_cases hbus : ∃ o k, s.seq = .bus o k
  · obtain ⟨o, k, hq⟩ := hbus
    simpa only [seqStep, hq] using supplied_transact h hq
  have hp : s.busPort = none := by
    rw [h.port]
    cases hq : s.seq
    case bus o k => exact absurd ⟨o, k, hq⟩ hbus
    all_goals rfl
  cases hq : s.seq <;> simp only [State.dataReady, hq] at hd <;> simp only [seqStep, hq]
  case bus o k => exact absurd ⟨o, k, hq⟩ hbus
  case idle => exact h
  case finish => exact .of_idle rfl hp
  case raiseCause c => exact .of_idle rfl hp
  case shutdown c => exact supplied_shutdown c s
  case closeSession => exact .of_move (by simpa using hb) (by simpa using hp) rfl rfl
  case openSession k => split <;> exact .of_move hb hp rfl rfl
  case settling k => cases k <;> exact .of_move hb hp rfl rfl
  case op o k =>
    obtain ⟨hs, hk⟩ := Bool.and_eq_true_iff.1 hd
    exact supplied_beginOp hb hp hs hk
  case request o k => exact ⟨fun hf => absurd (hb.symm.trans hf) nofun, rfl, hd⟩
  case rateCommit code k =>
    cases k
    · exact .of_move hb hp rfl rfl
    · exact .of_move hb hp rfl hd
  case warning c n => exact supplied_afterWarn (s := warn c s) hb hp n hd
  case initDone i => exact supplied_afterInit hb hp i hd
  case computeTa => split <;> exact .of_move (by simpa using hb) (by simpa using hp) rfl rfl
  case ambientTa a => simpa only [seqStep, hq] using supplied_ambientTa hb hp hq
  case ambientRetry c => exact supplied_retryThenWait (p := .amb) (by exact hb) (by exact hp) c nofun
  case faultedPhase => exact supplied_retryThenWait (p := .por) (by exact hb) (by exact hp) _ nofun
  case cycle => exact .of_move hb hp rfl hd
  case computeFrame => split <;> exact .of_move hb hp rfl rfl
  case cycleFrame =>
    simp only [Bool.and_eq_true] at hd
    obtain ⟨⟨⟨he, -⟩, -⟩, -⟩ := hd
    split <;> exact .of_move hb hp rfl he
  case cycleWait => exact .of_move hb hp rfl hd
  case pause p => exact supplied_afterPause hb hp p fun e => by subst e; exact hd
  all_goals exact .of_move hb hp rfl rfl

/-! ### Every step -/

/-- The first position of a command relies on nothing and has no frame on the port. -/
theorem supplied_accept (p : Params) (i : Instr) (w : Word) {s : State} (hp : s.busPort = none) :
    Supplied (accept w (firstPosition p i) s) := by
  cases i <;> exact .of_move rfl hp rfl rfl

theorem beforeAccept_busPort (i : Instr) (s : State) : (beforeAccept i s).busPort = s.busPort := by
  rw [beforeAccept_eq]

/-- An update that keeps BUSY, the port, the position and the validity bits. -/
theorem Supplied.congr {s t : State} (h : Supplied s) (hb : t.busy = s.busy) (hp : t.busPort = s.busPort)
    (hq : t.seq = s.seq) (hd : t.dataReady = s.dataReady) : Supplied t :=
  ⟨fun hf => hq.trans (h.idle (hb.symm.trans hf)), by rw [hp, hq, h.port], hd.trans h.ready⟩

theorem supplied_keeps : StepKeeps Supplied where
  grant _ _ h := h.congr rfl rfl rfl rfl
  move _ h hb := supplied_seqStep h hb
  frame _ _ h hp := by
    obtain ⟨_, hq⟩ := h.bus_of_port hp
    exact supplied_transact h hq
  accept s i h hb _ :=
    supplied_accept _ i _ ((beforeAccept_busPort i s).trans (h.port.trans (by rw [h.idle hb]; rfl)))
  reject _ _ h := h.congr rfl rfl rfl rfl
  stopBusy _ h _ := h.congr rfl rfl rfl rfl
  stopIdle _ _ _ := supplied_shutdown _ _
  deferred _ _ _ := supplied_shutdown _ _
  read _ _ h := h.congr rfl rfl rfl rfl
  write s a v h := by
    rw [hostWrite_eq]
    exact h.congr rfl rfl rfl rfl
  reset _ _ := .of_idle rfl rfl

/-- Settles O57: every step keeps the position supplied, and soundness gives it at the start. -/
theorem dataReadyKept : Obligations.DataReadyKept :=
  fun _ _ hsound hready hstep => (supplied_keeps.step (.of_sound hsound hready) hstep).ready

end Sys2Proof.Proofs
end

section
/-! One step by what is due: a host access that gets none (spec/20_memory.md R61, R62), the sequencer side's move with a
frame on the port (R72) or a termination request left by a command (R273), and the block's reset (R330). -/

namespace Sys2Proof.Proofs

open Sys2Proof.Machine

variable {s : State} {rest : List Input}

/-! ### Host accesses without a step -/

theorem accessFault_width {n : Nat} {a : BitVec 12} (hn : n ≠ 4) : accessFault n a = some .hostAccessWidth := if_pos hn

theorem accessFault_misaligned {a : BitVec 12} (ha : a.toNat % 4 ≠ 0) :
    accessFault 4 a = some .hostAccessMisaligned := by
  rw [accessFault, if_neg (by simp), if_pos ha]

/-- An access that is not admitted stops the machine, read or write alike. -/
theorem step_of_accessFault {n : Nat} {a : BitVec 12} {v : Word} {r : Fault}
    (hi : s.inputs = .hostRead n a :: rest ∨ s.inputs = .hostWrite n a v :: rest) (hr : accessFault n a = some r) :
    step s = .fault r := by
  rcases hi with hi | hi <;> simp only [step, hi, hr]

/-- Settles O51, by the two faults of `accessFault`. -/
theorem unadmittedAccessIsStuck : Obligations.UnadmittedAccessIsStuck := by
  intro s n a v rest hi
  refine ⟨fun hn => step_of_accessFault hi (accessFault_width hn), fun hn ha => ?_⟩
  subst hn
  exact step_of_accessFault hi (accessFault_misaligned ha)

/-! ### The sequencer side's move -/

theorem step_nothing_due (hi : s.inputs = []) : step s = advanceSeq s := by
  simp only [step, hi]

theorem step_advance (hi : s.inputs = .advance :: rest) : step s = advanceSeq { s with inputs := rest } := by
  simp only [step, hi]

theorem advanceSeq_frame {bs : List Byte} {i : Instr} (hd : s.stopDeferred = false) (hp : s.busPort = some bs)
    (hi : decodeFrame bs = .ok i) : advanceSeq s = exec i s := by
  simp only [advanceSeq, hd, hp, hi, Bool.false_eq_true, if_false]

/-- With no frame on the port the sequencer resumes, a termination request or not. -/
theorem advanceSeq_resume (hp : s.busPort = none) : advanceSeq s = .next (resume s) := by
  simp only [advanceSeq, hp, ite_self]

/-- A termination request left by a command comes before a frame on the port (R273). -/
theorem advanceSeq_deferred (hb : s.busy = false) (ht : s.termReq = true) :
    advanceSeq s = .next (shutdown .stopped s) := by
  simp [advanceSeq, State.stopDeferred, resume, hb, ht]

/-- Settles O8: a frame on the port is not part of the outside events, so their list may be empty or grant the move. -/
theorem stepRunsFrameOnPort : Obligations.StepRunsFrameOnPort := fun _ _ _ hd hp hi =>
  ⟨fun hn => (step_nothing_due hn).trans (advanceSeq_frame hd hp hi),
    fun _ hr => (step_advance hr).trans (advanceSeq_frame hd hp hi)⟩

/-! ### The shutdown routine -/

/-- What the shutdown routine leaves (R272): an open session is closed, and the command has ended. -/
theorem shutdown_eq (c : Cause) (s : State) : shutdown c s = { s with
    loopState := .halted
    lastCause := c
    ownCause := .none
    busy := false
    event := s.event ||| (CommandEnd.shutdown c).events
    termReq := false
    sessionOpen := false
    busClk := if s.sessionOpen then none else s.busClk
    busPort := none
    trace := if s.sessionOpen then .busEnd :: s.trace else s.trace
    curOp := none
    seq := .idle } := by
  unfold shutdown endSession
  cases h : s.sessionOpen <;> simp [commandEnd, CommandEnd.lastCause, State.record, h]

/-- Settles O39: with the request pending the move is the shutdown routine, whether or not it is granted by a token. -/
theorem stopAfterAnotherCommand : Obligations.StopAfterAnotherCommand := by
  intro s rest hb ht hi
  have hstep : step s = .next (shutdown .stopped { s with inputs := rest }) := by
    rcases hi with ⟨hnil, rfl⟩ | hadv
    · rw [step_nothing_due hnil, advanceSeq_deferred hb ht, ← hnil]
    · rw [step_advance hadv]
      exact advanceSeq_deferred hb ht
  rw [hstep, shutdown_eq]
  simp only [hb]
  rfl

/-! ### Reset -/

theorem step_reset (hi : s.inputs = .reset :: rest) : step s = .next (blockReset { s with inputs := rest }) := by
  simp only [step, hi]

/-- A granted move of a busy block with a reset due after it is that move alone. -/
theorem step_move_before_reset {t : State} (hb : s.busy = true) (hp : s.busPort = none)
    (hi : s.inputs = .advance :: .reset :: rest) (hmove : seqStep { s with inputs := .reset :: rest } = t)
    (ht : t.inputs = .reset :: rest) : step s = .next t := by
  subst hmove
  rw [step_advance hi, advanceSeq_resume (s := { s with inputs := .reset :: rest }) hp, resume, if_pos hb,
    runSeq_due (e := .reset) nofun ht]

/-- Settles O53: the reset by the position's issued request, and the two moves before an operation's answer. -/
theorem resetEvent : Obligations.ResetEvent := by
  refine ⟨fun s rest hi => ?_, fun s o k rest hb hp hi => ⟨fun hs hq => ?_, fun hq => ?_⟩⟩
  · rw [step_reset hi, blockReset]
    cases s.seq <;> rfl
  · refine step_move_before_reset hb hp hi ?_ rfl
    simp only [seqStep, hq, beginOp, hs, if_true, State.setAddr, State.record]
  · refine step_move_before_reset hb hp hi ?_ rfl
    simp only [seqStep, hq, sendFrame, BusOp.bytes]

end Sys2Proof.Proofs
end

section
/-! Soundness is kept by every step, and a sound state with an admitted access always has one. A command's positions are
of two kinds: between two operations, where the bus rests and the session alone says the phase of the trace, and the
five positions inside a session opening or an operation, whose phase is their own (spec/20_memory.md R77). -/

namespace Sys2Proof.Proofs

open Sys2Proof.Machine

/-! ### What soundness reads of the state -/

/-- `t` agrees with `s` in all that soundness reads but the position. -/
structure SameBus (s t : State) : Prop where
  busy    : t.busy = s.busy := by rfl
  curOp   : t.curOp = s.curOp := by rfl
  port    : t.busPort = s.busPort := by rfl
  session : t.sessionOpen = s.sessionOpen := by rfl
  clock   : t.busClk = s.busClk := by rfl
  phase   : busPhase t.trace = busPhase s.trace := by rfl

theorem SameBus.trans {s t u : State} (h : SameBus s t) (k : SameBus t u) : SameBus s u where
  busy := k.busy.trans h.busy
  curOp := k.curOp.trans h.curOp
  port := k.port.trans h.port
  session := k.session.trans h.session
  clock := k.clock.trans h.clock
  phase := k.phase.trans h.phase

theorem sameBus_deliver (res : OpResult) (k : Cont) (s : State) : SameBus s (deliver res k s) := by
  rw [deliver_eq]
  exact {}

theorem sameBus_commitTa (s : State) : SameBus s (commitTa s) := by
  rw [commitTa_eq]
  exact {}

theorem sameBus_commitAnswer (o : BusOp) (r : Option (List Byte)) (s : State) : SameBus s (commitAnswer o r s) := by
  cases o <;> cases r <;> exact {}

theorem sameBus_beforeAccept (i : Instr) (s : State) : SameBus s (beforeAccept i s) := by
  rw [beforeAccept_eq]
  exact {}

theorem sameBus_hostWrite (a : BitVec 12) (v : Word) (s : State) : SameBus s (hostWrite a v s) := by
  rw [hostWrite_eq]
  exact {}

/-- An emission is no bus event: it leaves every phase. -/
theorem busPhase_emit (f : List Byte) (l : List Event) : busPhase (.emit f :: l) = busPhase l := by
  rw [busPhase]
  cases busPhase l <;> rfl

theorem sameBus_emission (s : State) : SameBus s (emission s) where
  phase := busPhase_emit _ _

theorem phase_congr {s t : State} (hs : t.sessionOpen = s.sessionOpen) (hq : t.seq = s.seq) : t.phase = s.phase := by
  simp only [State.phase, hs, hq]

/-- Soundness depends on the position and on what `SameBus` compares. -/
theorem sound_congr {s t : State} (h : s.Sound) (b : SameBus s t) (hq : t.seq = s.seq) : t.Sound where
  busy := by rw [b.busy, hq, h.busy]
  curOp := by rw [b.busy, b.curOp, h.curOp]
  port := by rw [b.port, hq, h.port]
  framed := by rw [hq, h.framed]
  session := by rw [hq, b.session]; exact h.session
  closed := by rw [hq, b.session]; exact h.closed
  clock := by rw [hq, b.session, b.clock]; exact h.clock
  phase := by rw [b.phase, phase_congr b.session hq, h.phase]

/-! ### The bus at rest -/

/-- The phase of a trace one event later. -/
theorem busPhase_next {e : Event} {l : List Event} {p q : BusPhase} (h : busPhase l = some p)
    (he : busPhaseStep e p = some q) : busPhase (e :: l) = some q := by
  rw [busPhase, h]
  exact he

/-- The phase in which a session that is open, or closed, leaves the bus between two operations. -/
def sessionPhase (isOpen : Bool) : BusPhase := if isOpen then .ready else .closed

/-- No operation and no session opening is under way: the port is free, and an open session is clocked and ready. -/
structure BusRests (s : State) : Prop where
  port  : s.busPort = none
  clock : s.sessionOpen = true → s.busClk = some 25000
  phase : busPhase s.trace = some (sessionPhase s.sessionOpen)

theorem BusRests.congr {s t : State} (h : BusRests s) (b : SameBus s t) : BusRests t where
  port := b.port.trans h.port
  clock := by rw [b.session, b.clock]; exact h.clock
  phase := by rw [b.phase, b.session, h.phase]

theorem BusRests.ready {s : State} (h : BusRests s) (ho : s.sessionOpen = true) : busPhase s.trace = some .ready := by
  rw [h.phase, ho]
  rfl

/-- The positions at which the bus rests. -/
def restsAt : Seq → Bool
  | .openBegin _ => false
  | .openClock _ => false
  | .openSettle _ => false
  | .request _ _ => false
  | .bus _ _ => false
  | _ => true

/-- What a resting position has in common with every other. -/
theorem restsAt_facts {q : Seq} (h : restsAt q = true) :
    q.port = none ∧ q.needsClosed = false ∧ q.clockDue = false := by
  cases q
  case openBegin | openClock | openSettle | request | bus => cases h
  all_goals exact ⟨rfl, rfl, rfl⟩

theorem phase_of_restsAt {s : State} (h : restsAt s.seq = true) : s.phase = sessionPhase s.sessionOpen := by
  unfold State.phase
  cases hq : s.seq <;> rw [hq] at h
  case openBegin | openClock | openSettle | request | bus => cases h
  all_goals rfl

theorem busRests_of_sound {s : State} (h : s.Sound) (hr : restsAt s.seq = true) : BusRests s where
  port := h.port.trans (restsAt_facts hr).1
  clock hs := h.clock hs (restsAt_facts hr).2.2
  phase := by rw [h.phase, phase_of_restsAt hr]

theorem seq_of_idle {s : State} (h : s.Sound) (hb : s.busy = false) : s.seq = .idle := by
  simpa [hb] using h.busy

theorem busRests_of_idle {s : State} (h : s.Sound) (hb : s.busy = false) : BusRests s :=
  busRests_of_sound h (by rw [seq_of_idle h hb]; rfl)

/-- A block that executes no command is sound when its bus rests. -/
theorem BusRests.sound_idle {t : State} (h : BusRests t) (hq : t.seq = .idle) (hb : t.busy = false)
    (hc : t.curOp = none) : t.Sound where
  busy := by rw [hb, hq]; rfl
  curOp := by rw [hb, hc]; rfl
  port := by rw [h.port, hq]; rfl
  framed := by rw [hq]; rfl
  session hn := by rw [hq] at hn; cases hn
  closed hn := by rw [hq] at hn; cases hn
  clock hs _ := h.clock hs
  phase := by rw [h.phase, phase_of_restsAt (by rw [hq]; rfl)]

/-! ### A running command between two operations -/

/-- The bus rests while a command executes. -/
structure Runs (s : State) : Prop extends BusRests s where
  busy  : s.busy = true
  curOp : s.curOp.isSome = true

theorem Runs.congr {s t : State} (h : Runs s) (b : SameBus s t) : Runs t where
  toBusRests := h.toBusRests.congr b
  busy := b.busy.trans h.busy
  curOp := by rw [b.curOp]; exact h.curOp

theorem runs_of_sound {s : State} (h : s.Sound) (hb : s.busy = true) (hr : restsAt s.seq = true) : Runs s where
  toBusRests := busRests_of_sound h hr
  busy := hb
  curOp := h.curOp.symm.trans hb

/-- The resting positions of a command that can be entered with the session open, or closed. -/
def enterable (isOpen : Bool) : Seq → Bool
  | .idle => false
  | q => restsAt q && q.framed && (!q.needsSession || isOpen)

theorem enterable_iff {isOpen : Bool} {q : Seq} : enterable isOpen q = true ↔
    q ≠ .idle ∧ restsAt q = true ∧ q.framed = true ∧ (q.needsSession = true → isOpen = true) := by
  cases q
  case idle => simp [enterable]
  all_goals simp [enterable, and_assoc, imp_iff_not_or]

theorem enterable_op {isOpen : Bool} {o : BusOp} {k : Cont} (hw : o.frame.wellFormed = true)
    (hk : k.inSession = true → isOpen = true) : enterable isOpen (.op o k) = true :=
  enterable_iff.2 ⟨nofun, rfl, hw, hk⟩

theorem Runs.sound {t : State} (h : Runs t) (hq : enterable t.sessionOpen t.seq = true) : t.Sound := by
  obtain ⟨hidle, hr, hf, hs⟩ := enterable_iff.1 hq
  obtain ⟨hport, hclosed, -⟩ := restsAt_facts hr
  exact {
    busy := by rw [h.busy, decide_eq_false hidle]; rfl
    curOp := h.busy.trans h.curOp.symm
    port := h.port.trans hport.symm
    framed := hf
    session := hs
    closed := fun hn => by rw [hclosed] at hn; cases hn
    clock := fun ho _ => h.clock ho
    phase := by rw [h.phase, phase_of_restsAt hr] }

/-- A move that leaves the bus alone leads to a sound state. -/
theorem Runs.enter {s t : State} (h : Runs s) (b : SameBus s t) (hq : enterable t.sessionOpen t.seq = true) : t.Sound :=
  (h.congr b).sound hq

/-! ### Frames -/

theorem wellFormed_trimOp (v : Byte) : (trimOp v).frame.wellFormed = true := by
  simp [trimOp, BusOp.frame, Instr.wellFormed, chk]

theorem wellFormed_cfgOp (l m : Byte) : (cfgOp l m).frame.wellFormed = true := by
  simp [cfgOp, BusOp.frame, Instr.wellFormed, chk]

/-- Every frame belongs to the address that its operation targets (R134). -/
theorem frameTarget_bytes (o : BusOp) : frameTarget o.bytes = o.target := by
  cases o
  case trimWrite c v => exact if_neg (by simp [BusOp.bytes, BusOp.frame, encode])
  case cfgWrite c l d m => exact if_neg (by simp [BusOp.bytes, BusOp.frame, encode])
  all_goals decide

/-- A well-formed frame is one of the read frames or a well-framed write (R96, R130). -/
theorem isReadFrame_or_wellFramed {o : BusOp} (hw : o.frame.wellFormed = true) :
    isReadFrame o.bytes = true ∨ wellFramed o.bytes = true := by
  cases o
  case trimWrite c v => exact .inr ((wellFramed_trimWrite c v).trans hw)
  case cfgWrite c l d m => exact .inr ((wellFramed_cfgWrite c l d m).trans hw)
  all_goals exact .inl (by decide)

theorem busPhaseStep_write {f : List Byte} {ok : Bool} {a : BusAddr} (ht : frameTarget f = a)
    (hf : wellFramed f = true) : busPhaseStep (.busWrite f ok) (.targeted a) = some .ready :=
  if_pos ⟨ht.symm, hf⟩

theorem busPhaseStep_read {f : List Byte} {n : Nat} {r : Option (List Byte)} {a : BusAddr} (ht : frameTarget f = a)
    (hf : isReadFrame f = true) : busPhaseStep (.busWriteRead f n r) (.targeted a) = some .ready :=
  if_pos ⟨ht.symm, hf⟩

/-- A transaction is in order on the bus that is targeted for it. -/
theorem busPhaseStep_event {o : BusOp} (r : Option (List Byte)) (hw : o.frame.wellFormed = true) :
    busPhaseStep (o.event r) (.targeted o.target) = some .ready := by
  have ht := frameTarget_bytes o
  cases o
  case trimWrite c v => exact busPhaseStep_write ht ((wellFramed_trimWrite c v).trans hw)
  case cfgWrite c l d m => exact busPhaseStep_write ht ((wellFramed_cfgWrite c l d m).trans hw)
  all_goals exact busPhaseStep_read ht (by decide)

/-- So is its request when a reset cuts it off. -/
theorem busPhaseStep_busCut {o : BusOp} (hw : o.frame.wellFormed = true) :
    busPhaseStep (.busCut o.bytes) (.targeted o.target) = some .ready :=
  if_pos ⟨(frameTarget_bytes o).symm, isReadFrame_or_wellFramed hw⟩

/-! ### Where an operation leads -/

/-- With the session open, every place takes a result to a position that it can enter. -/
theorem enterable_deliver (res : OpResult) (k : Cont) (s : State) : enterable true (deliver res k s).seq = true := by
  cases k <;> cases res <;> simp only [deliver]
  case checkPor.ok => split <;> rfl
  case cyclePor.ok => split <;> rfl
  case rateRead.ok => exact enterable_op (wellFormed_cfgOp _ _) fun _ => rfl
  case rateRead.fail k _ => cases k <;> rfl
  case rateWrite.fail k _ => cases k <;> rfl
  case initEeprom.ok => exact enterable_op (wellFormed_trimOp _) fun _ => rfl
  case initEeprom.fail i _ => cases i <;> rfl
  case initTrim.ok => exact enterable_op (wellFormed_cfgOp _ _) fun _ => rfl
  case initTrim.fail i _ => cases i <;> rfl
  case initConfig.fail i _ => cases i <;> rfl
  all_goals rfl

/-- A failure goes on with no session open where the operation needs none (R153). -/
theorem enterable_deliver_fail {k : Cont} (hk : k.inSession = false) (c : Cause) (s : State) :
    enterable false (deliver (.fail c) k s).seq = true :=
  match k, hk with
  | .command, _ => rfl
  | .checkPor, _ => rfl
  | .rateRead _ .command, _ => rfl
  | .rateWrite _ .command, _ => rfl

/-- The answer to the frame that the position has with the transport. -/
theorem sound_transact {s : State} {o : BusOp} {k : Cont} (h : s.Sound) (hq : s.seq = .bus o k) :
    (transact o s).Sound := by
  have hb : s.busy = true := by simpa [hq] using h.busy
  have hs : s.sessionOpen = true := h.session (by rw [hq]; rfl)
  have hw : o.frame.wellFormed = true := by simpa only [hq, Seq.framed] using h.framed
  have hph := h.phase
  simp only [State.phase, hq] at hph
  have hanswered : Runs ({ s with busAddr := o.target, busPort := none }.record
      (o.event (s.busAnswer o.respLen))).takeAnswer := by
    refine ⟨⟨rfl, fun _ => h.clock hs (by rw [hq]; rfl), ?_⟩, hb, h.curOp.symm.trans hb⟩
    show busPhase (o.event _ :: s.trace) = some (sessionPhase s.sessionOpen)
    rw [hs]
    exact busPhase_next hph (busPhaseStep_event _ hw)
  have hruns : Runs (transaction o s) := hanswered.congr (sameBus_commitAnswer o _ _)
  have hopen : (transaction o s).sessionOpen = true := (sameBus_commitAnswer o _ _).session.trans hs
  have hb' := sameBus_deliver (o.result (s.busAnswer o.respLen)) k (transaction o s)
  rw [transact_bus hq]
  refine hruns.enter hb' ?_
  rw [hb'.session, hopen]
  exact enterable_deliver _ k _

/-- The position of a frame on the port is the operation that sent it. -/
theorem bus_of_port {s : State} {o : BusOp} (h : s.busPort = s.seq.port) (hp : s.busPort = some o.bytes) :
    ∃ k, s.seq = .bus o k := by
  rw [h] at hp
  cases hq : s.seq <;> simp only [hq, Seq.port, reduceCtorEq, Option.some.injEq] at hp
  case bus o' k => exact ⟨k, by rw [bytes_injective hp]⟩

/-! ### Ends of commands and sessions -/

theorem busRests_endSession {s : State} (h : BusRests s) : BusRests (endSession s) := by
  unfold endSession
  split
  · next ho => exact ⟨h.port, nofun, busPhase_next (h.ready ho) rfl⟩
  · exact h

theorem sound_commandEnd (e : CommandEnd) {s : State} (h : BusRests s) : (commandEnd e s).Sound :=
  BusRests.sound_idle ⟨h.port, h.clock, h.phase⟩ rfl rfl rfl

theorem sound_shutdown (c : Cause) {s : State} (h : BusRests s) : (shutdown c s).Sound :=
  sound_commandEnd _ ⟨rfl, (busRests_endSession h).clock, (busRests_endSession h).phase⟩

/-! ### Moves between two operations -/

section Moves

variable {s : State} (h : Runs s)
include h

/-- A wait other than the settle wait begins with a session open (R352). -/
theorem Runs.beginWait {w : WaitKind} (hw : w ≠ .settle) (ho : s.sessionOpen = true) : Runs (s.beginWait w) where
  port := h.port
  clock := h.clock
  phase := by
    show busPhase (.wait w _ :: s.trace) = some (sessionPhase s.sessionOpen)
    rw [ho]
    refine busPhase_next (h.ready ho) ?_
    cases w
    case settle => exact absurd rfl hw
    all_goals rfl
  busy := h.busy
  curOp := h.curOp

theorem sound_closeSession : ({ endSession s with seq := .finish } : State).Sound := by
  have hr : Runs (endSession s) := by
    refine ⟨busRests_endSession h.toBusRests, ?_, ?_⟩ <;> rw [endSession_eq]
    · exact h.busy
    · exact h.curOp
  exact hr.enter {} rfl

/-- A session opening ends an open session, and then there is none (R150). -/
theorem sound_openSession {k : Caller} (hq : s.seq = .openSession k) : (seqStep s).Sound := by
  rw [seqStep_openSession hq]
  refine ⟨h.busy, h.busy.trans h.curOp.symm, h.port, rfl, nofun, fun _ => rfl, nofun, ?_⟩
  show busPhase (if s.sessionOpen then .busEnd :: s.trace else s.trace) = some .closed
  split
  · next ho => exact busPhase_next (h.ready ho) rfl
  · next hc => rw [h.phase, Bool.eq_false_iff.2 hc]; rfl

/-- An operation begins: it targets its unit, or fails for want of a session (R134, R153). -/
theorem sound_beginOp {o : BusOp} {k : Cont} (hw : o.frame.wellFormed = true)
    (hk : k.inSession = true → s.sessionOpen = true) : (beginOp o k s).Sound := by
  unfold beginOp
  split
  · next ho =>
    exact ⟨h.busy, h.busy.trans h.curOp.symm, h.port, hw, fun _ => ho, nofun, fun _ _ => h.clock ho,
      busPhase_next (h.ready ho) rfl⟩
  · next hc =>
    have b := sameBus_deliver (.fail .sessionClosed) k s
    refine h.enter b ?_
    rw [b.session, Bool.eq_false_iff.2 hc]
    exact enterable_deliver_fail (Bool.eq_false_iff.2 fun hi => hc (hk hi)) _ s

theorem sound_retryThenWait (c : Cause) {w : WaitKind} (p : Pause) (hw : w ≠ .settle) (ho : s.sessionOpen = true) :
    (retryThenWait c w p s).Sound := by
  unfold retryThenWait
  split
  · exact h.enter {} rfl
  · exact (h.beginWait hw ho).enter {} ho

theorem sound_afterWarn (n : AfterWarn) (ho : s.sessionOpen = true) : (afterWarn n s).Sound := by
  cases n <;> exact h.enter {} ho

theorem sound_afterInit (i : InitCaller) (ho : s.sessionOpen = true) : (afterInit i s).Sound := by
  cases i <;> simp only [afterInit]
  case faultedPhase => split <;> exact h.enter {} ho
  all_goals
    refine h.enter {} ?_
    show enterable s.sessionOpen (if _ then _ else _) = true
    rw [ho]
    split <;> rfl

theorem sound_afterPause (p : Pause) (ho : s.sessionOpen = true) : (afterPause p s).Sound := by
  unfold afterPause
  split
  · exact h.enter {} rfl
  · cases p
    case cycle => exact h.enter {} ho
    all_goals exact h.enter {} rfl

end Moves

/-- Every move from a position at which the bus rests. -/
theorem sound_move_resting {s : State} (h : s.Sound) (hb : s.busy = true) (hr : restsAt s.seq = true) :
    (seqStep s).Sound := by
  have hruns := runs_of_sound h hb hr
  have hidle : s.seq ≠ .idle := by simpa [hb] using h.busy
  have hf := h.framed
  have ho := h.session
  cases hq : s.seq <;> rw [hq] at hr hidle hf ho <;> simp only [seqStep, hq]
  case openBegin | openClock | openSettle | request | bus => cases hr
  case idle => exact absurd rfl hidle
  case finish => exact sound_commandEnd _ hruns.toBusRests
  case raiseCause c => exact sound_commandEnd _ hruns.toBusRests
  case shutdown c => exact sound_shutdown c hruns.toBusRests
  case closeSession => exact sound_closeSession hruns
  case openSession k => simpa only [seqStep, hq] using sound_openSession hruns hq
  case settling k =>
    cases k
    · exact hruns.enter {} rfl
    · exact hruns.enter {} (ho rfl)
  case op o k => exact sound_beginOp hruns hf ho
  case rateCommit code k =>
    cases k
    · exact hruns.enter {} rfl
    · exact hruns.enter {} (ho rfl)
  case warning c n => exact sound_afterWarn (hruns.congr (t := warn c s) {}) n (ho rfl)
  case initDone i => exact sound_afterInit hruns i (ho rfl)
  case computeTa => split <;> exact hruns.enter ((sameBus_commitTa s).trans {}) rfl
  case ambientTa a =>
    have hopen := (sameBus_commitTa s).session.trans (ho rfl)
    split
    · cases a <;> exact hruns.enter ((sameBus_commitTa s).trans {}) hopen
    · exact hruns.enter ((sameBus_commitTa s).trans {}) hopen
  case ambientRetry c => exact sound_retryThenWait (hruns.congr {}) c _ nofun (ho rfl)
  case faultedPhase => exact sound_retryThenWait (hruns.congr {}) _ _ nofun (ho rfl)
  case computeFrame =>
    split
    · exact hruns.enter ((sameBus_emission s).trans {}) rfl
    · exact hruns.enter {} rfl
  case cycleFrame =>
    split
    · exact hruns.enter ((sameBus_emission s).trans {}) (ho rfl)
    · exact hruns.enter {} (ho rfl)
  case cycleWait => exact (hruns.beginWait (w := .cycle) nofun (ho rfl)).enter {} (ho rfl)
  case pause p => exact sound_afterPause hruns p (ho rfl)
  case cycle => exact hruns.enter {} (ho rfl)
  all_goals exact hruns.enter {} rfl

/-- The moves inside a session opening and an operation follow one another in the order of their events (R150, R153). -/
theorem sound_move_within {s : State} (h : s.Sound) (hb : s.busy = true) (hr : restsAt s.seq = false) :
    (seqStep s).Sound := by
  have hc := h.curOp
  have hport := h.port
  have hf := h.framed
  have ho := h.session
  have hclosed := h.closed
  have hclock := h.clock
  have hph := h.phase
  cases hq : s.seq <;> rw [hq] at hr hport hf ho hclosed hclock <;> simp only [State.phase, hq] at hph <;>
    simp only [seqStep, hq]
  case openBegin k =>
    exact ⟨hb, hc, hport, rfl, fun _ => rfl, nofun, nofun, busPhase_next hph rfl⟩
  case openClock k =>
    exact ⟨hb, hc, hport, rfl, ho, nofun, fun _ _ => rfl, busPhase_next hph rfl⟩
  case openSettle k =>
    refine ⟨hb, hc, hport, rfl, ho, nofun, fun hs _ => hclock hs rfl, ?_⟩
    show busPhase (.wait .settle _ :: s.trace) = some (sessionPhase s.sessionOpen)
    rw [ho rfl]
    exact busPhase_next hph rfl
  case request o k => exact ⟨hb, hc, rfl, hf, ho, nofun, fun hs _ => hclock hs rfl, hph⟩
  case bus o k => exact sound_transact h hq
  all_goals cases hr

theorem sound_seqStep {s : State} (h : s.Sound) (hb : s.busy = true) : (seqStep s).Sound := by
  cases hr : restsAt s.seq
  · exact sound_move_within h hb hr
  · exact sound_move_resting h hb hr

/-! ### Every step -/

/-- The first position of a command needs no session (R153). -/
theorem enterable_firstPosition (isOpen : Bool) (p : Params) (i : Instr) :
    enterable isOpen (firstPosition p i) = true := by
  cases i
  case writeTrim a => exact enterable_op (wellFormed_trimOp a) nofun
  case writeConfig a b => exact enterable_op (wellFormed_cfgOp a b) nofun
  all_goals rfl

theorem sound_accept (w : Word) (i : Instr) {s : State} (h : s.Sound) (hb : s.busy = false) :
    (accept w (firstPosition s.params i) (beforeAccept i s)).Sound := by
  have hr := (busRests_of_idle h hb).congr (sameBus_beforeAccept i s)
  exact Runs.sound ⟨⟨hr.port, hr.clock, hr.phase⟩, rfl, rfl⟩ (enterable_firstPosition _ _ i)

/-- A reset finds the bus events in order, the request that it cuts off among them (R330). -/
theorem busPhase_cutRequest {s : State} (h : s.Sound) : ∃ p, busPhase (cutRequest s.seq ++ s.trace) = some p := by
  have hph := h.phase
  have hf := h.framed
  cases hq : s.seq <;> rw [hq] at hf
  case bus o k =>
    simp only [State.phase, hq] at hph
    exact ⟨.ready, busPhase_next hph (busPhaseStep_busCut hf)⟩
  all_goals exact ⟨s.phase, hph⟩

theorem sound_blockReset {s : State} (h : s.Sound) : (blockReset s).Sound := by
  obtain ⟨p, hp⟩ := busPhase_cutRequest h
  exact BusRests.sound_idle ⟨rfl, nofun, busPhase_next hp rfl⟩ rfl rfl rfl

theorem sound_keeps : StepKeeps State.Sound where
  grant _ _ h := sound_congr h {} rfl
  move _ h hb := sound_seqStep h hb
  frame _ _ h hp := by
    obtain ⟨_, hq⟩ := bus_of_port h.port hp
    exact sound_transact h hq
  accept _ i h hb _ := sound_accept _ i h hb
  reject _ _ h := sound_congr h {} rfl
  stopBusy _ h _ := sound_congr h {} rfl
  stopIdle _ h hb := sound_shutdown _ (busRests_of_idle (sound_congr h {} rfl) hb)
  deferred _ h hb := sound_shutdown _ (busRests_of_idle h hb)
  read _ _ h := sound_congr h {} rfl
  write s a v h := by
    refine sound_congr h (sameBus_hostWrite a v s) ?_
    rw [hostWrite_eq]
  reset _ h := sound_blockReset h

/-! ### A step is answered -/

/-- The sequencer side always moves: what a sound state has on the port is a frame (R99). -/
theorem advanceSeq_next {s : State} (hp : s.busPort = s.seq.port) : ∃ t, advanceSeq s = .next t := by
  cases hd : s.stopDeferred
  · cases hq : s.busPort with
    | none => exact ⟨_, advanceSeq_resume hq⟩
    | some bs =>
      have hbus : ∃ o : BusOp, bs = o.bytes := by
        rw [hq] at hp
        cases hs : s.seq <;> rw [hs] at hp <;> cases hp
        exact ⟨_, rfl⟩
      obtain ⟨o, rfl⟩ := hbus
      rw [advanceSeq_frame hd hq (decodeFrame_bytes o)]
      exact exec_next _ s
  · exact ⟨_, if_pos hd⟩

theorem writeAccess_next (a : BitVec 12) (v : Word) (s : State) : ∃ t, writeAccess a v s = .next t := by
  unfold writeAccess submitWord
  split
  · split
    · exact exec_next _ s
    · exact ⟨_, rfl⟩
  · exact ⟨_, rfl⟩

/-- A sound state steps, but for an access that is not admitted (R61, R62). -/
theorem step_next {s : State} (h : s.Sound) (ha : s.admitted) : ∃ t, step s = .next t := by
  unfold step
  unfold State.admitted at ha
  split
  · exact advanceSeq_next h.port
  · exact advanceSeq_next h.port
  · exact ⟨_, rfl⟩
  · next width a rest hi =>
    rw [hi] at ha
    obtain ⟨rfl, ha⟩ := ha
    rw [accessFault_of_aligned ha]
    exact ⟨_, rfl⟩
  · next width a v rest hi =>
    rw [hi] at ha
    obtain ⟨rfl, ha⟩ := ha
    rw [accessFault_of_aligned ha]
    exact writeAccess_next a v _

/-- Settles O56: a sound state has a step, and every part of a step keeps soundness. -/
theorem soundStateKept : Obligations.SoundStateKept := fun _ hsound hadmitted => by
  obtain ⟨t, ht⟩ := step_next hsound hadmitted
  exact ⟨t, ht, sound_keeps.step hsound ht⟩

end Sys2Proof.Proofs
end

section
/-! The two encodings and the assembler: which words and frames decode, that decoding and encoding are inverse, and the
words that assembly lines stand for (spec/30_encoding.md R91 to R100). -/

namespace Sys2Proof.Proofs

open Sys2Proof.Machine

variable {w v : Word} {op : Byte} {i : Instr}

/-! ### Words by their fields -/

/-- `ARG16` is B and A side by side (R91). -/
theorem arg16Field_eq (w : Word) : arg16Field w = bField w ++ aField w :=
  (BitVec.extractLsb'_append_extractLsb'_eq_extractLsb' (start₁ := 8) (len₁ := 8) rfl).symm

theorem extractLsb'_arg16Field (w : Word) :
    (arg16Field w).extractLsb' 0 8 = aField w ∧ (arg16Field w).extractLsb' 8 8 = bField w := by
  rw [arg16Field_eq]
  exact ⟨BitVec.extractLsb'_append_eq_right, BitVec.extractLsb'_append_eq_left⟩

theorem arg16Field_eq_zero_iff : arg16Field w = 0#16 ↔ aField w = 0#8 ∧ bField w = 0#8 := by
  refine ⟨fun h => ?_, fun ⟨ha, hb⟩ => by rw [arg16Field_eq, ha, hb]; rfl⟩
  rw [← (extractLsb'_arg16Field w).1, ← (extractLsb'_arg16Field w).2, h]
  exact ⟨rfl, rfl⟩

/-- A word is determined by its four fields (R91). -/
theorem word_eq_iff_fields : w = v ↔
    opField w = opField v ∧ aField w = aField v ∧ bField w = bField v ∧ rsvdField w = rsvdField v := by
  refine ⟨fun h => by simp [h], fun ⟨hop, ha, hb, hr⟩ => ?_⟩
  rw [← word_of_bytes w, ← word_of_bytes v]
  simp only [opField, aField, bField, rsvdField] at hop ha hb hr
  rw [hop, ha, hb, hr]

/-- A word is its fields put together, where RSVD is 0. -/
theorem commandWord_fields (h : rsvdField w = 0#8) : commandWord (opField w) (aField w) (bField w) = w := by
  simp [word_eq_iff_fields, h]

/-! ### What decodes, and to what -/

/-- A command without operand has the encoding that R92 gives its opcode. -/
theorem encodeWord_of_plainCommand {n : Nat} (h : plainCommand n = some i) :
    i.format = .hostCmd ∧ encodeWord i = commandWord (BitVec.ofNat 8 n) 0#8 0#8 := by
  unfold plainCommand at h
  split at h <;> cases h <;> exact ⟨rfl, rfl⟩

theorem exists_plainCommand_iff (n : Nat) :
    (∃ i, plainCommand n = some i) ↔ n ≤ 0x10 ∧ n ≠ 0x04 ∧ n ≠ 0x05 ∧ n ≠ 0x0A := by
  constructor
  · rintro ⟨i, h⟩
    unfold plainCommand at h
    split at h <;> simp_all
  · rintro ⟨hle, h4, h5, hA⟩
    interval_cases n <;> simp_all [plainCommand]

/-- The legal words (R93), each with its command. -/
theorem decodeCommand_eq_ok_iff : decodeCommand w = .ok i ↔ rsvdField w = 0#8 ∧
    ((opField w = 0x04#8 ∧ bField w = 0#8 ∧ i = .writeTrim (aField w)) ∨
      (opField w = 0x05#8 ∧ i = .writeConfig (aField w) (bField w)) ∨
      (opField w = 0x0A#8 ∧ i = .setRefreshRate (arg16Field w)) ∨
      (plainCommand (opField w).toNat = some i ∧ arg16Field w = 0#16)) := by
  unfold decodeCommand
  by_cases hr : rsvdField w = 0#8
  swap
  · simp [hr]
  by_cases h4 : opField w = 0x04#8
  · by_cases hb : bField w = 0#8 <;> simp [hr, h4, plainCommand, hb, eq_comm]
  by_cases h5 : opField w = 0x05#8
  · simp [hr, h5, plainCommand, eq_comm]
  by_cases hA : opField w = 0x0A#8
  · simp [hr, hA, plainCommand, eq_comm]
  simp only [hr, h4, h5, hA, ne_eq, not_true_eq_false, if_false, false_and, false_or, true_and]
  split
  · simp [*]
  · by_cases ha : arg16Field w = 0#16 <;> simp [*]

/-- A command word that decodes is the word of its command. -/
theorem encodeWord_of_decodeCommand (h : decodeCommand w = .ok i) : i.format = .hostCmd ∧ encodeWord i = w := by
  obtain ⟨hr, h⟩ := decodeCommand_eq_ok_iff.1 h
  have hw := commandWord_fields hr
  rcases h with ⟨hop, hb, rfl⟩ | ⟨hop, rfl⟩ | ⟨hop, rfl⟩ | ⟨hop, harg⟩
  · rw [hop, hb] at hw
    exact ⟨rfl, hw⟩
  · rw [hop] at hw
    exact ⟨rfl, hw⟩
  · rw [hop] at hw
    obtain ⟨ha, hb⟩ := extractLsb'_arg16Field w
    exact ⟨rfl, by rw [encodeWord, ha, hb, hw]⟩
  · obtain ⟨ha, hb⟩ := arg16Field_eq_zero_iff.1 harg
    obtain ⟨hf, he⟩ := encodeWord_of_plainCommand hop
    rw [BitVec.ofNat_toNat, BitVec.setWidth_eq] at he
    rw [ha, hb] at hw
    exact ⟨hf, he.trans hw⟩

theorem decodeCommand_plain (h : plainCommand op.toNat = some i) : decodeCommand (commandWord op 0#8 0#8) = .ok i :=
  decodeCommand_eq_ok_iff.2 ⟨by simp, by simp [h]⟩

/-- The word of a command decodes to it. -/
theorem decodeCommand_encodeWord (h : i.format = .hostCmd) : decodeCommand (encodeWord i) = .ok i := by
  cases i
  case writeTrim a => exact decodeCommand_eq_ok_iff.2 ⟨by simp [encodeWord], by simp [encodeWord]⟩
  case writeConfig a b => exact decodeCommand_eq_ok_iff.2 ⟨by simp [encodeWord], by simp [encodeWord]⟩
  case setRefreshRate r =>
    exact decodeCommand_eq_ok_iff.2 ⟨by simp [encodeWord], by simp [encodeWord, half_of_bytes]⟩
  case eeDump | cfgRead | ptatRead | cpRead | irRead | trimWrite | cfgWrite => cases h
  all_goals exact decodeCommand_plain rfl

/-! ### Bytes -/

theorem decode_wordBytes (w : Word) : decode .hostCmd (wordBytes w) = decodeCommand w := by
  rw [wordBytes, decode, word_of_bytes]

theorem encode_of_hostCmd (h : i.format = .hostCmd) : encode i = wordBytes (encodeWord i) := by
  cases i
  case eeDump | cfgRead | ptatRead | cpRead | irRead | trimWrite | cfgWrite => cases h
  all_goals rfl

/-- The bytes of a word that is put together from bytes. -/
theorem wordBytes_append (b3 b2 b1 b0 : Byte) : wordBytes (b3 ++ b2 ++ b1 ++ b0) = [b0, b1, b2, b3] := by
  have h0 : (b3 ++ b2 ++ b1 ++ b0 : Word).extractLsb' 0 8 = b0 := BitVec.extractLsb'_append_eq_right
  have h1 : (b3 ++ b2 ++ b1 ++ b0 : Word).extractLsb' 8 8 = b1 :=
    (BitVec.extractLsb'_append_eq_of_le (by decide)).trans BitVec.extractLsb'_append_eq_right
  have h2 : (b3 ++ b2 ++ b1 ++ b0 : Word).extractLsb' 16 8 = b2 :=
    (BitVec.extractLsb'_append_eq_of_le (by decide)).trans
      ((BitVec.extractLsb'_append_eq_of_le (by decide)).trans BitVec.extractLsb'_append_eq_right)
  have h3 : (b3 ++ b2 ++ b1 ++ b0 : Word).extractLsb' 24 8 = b3 :=
    (BitVec.extractLsb'_append_eq_of_le (by decide)).trans
      ((BitVec.extractLsb'_append_eq_of_le (by decide)).trans BitVec.extractLsb'_append_eq_left)
  rw [wordBytes, h0, h1, h2, h3]

theorem format_frame (o : BusOp) : o.frame.format = .busFrame := by cases o <;> rfl

/-- Settles O1: a command by its word, a frame by its bytes. -/
theorem decodeOfEncode : Obligations.DecodeOfEncode := by
  intro i
  cases hf : i.format with
  | hostCmd => rw [encode_of_hostCmd hf, decode_wordBytes, decodeCommand_encodeWord hf]
  | busFrame =>
    rcases instr_cases i with hi | rfl | ⟨o, rfl⟩
    · simp [runsCommand, hf] at hi
    · cases hf
    · exact decodeFrame_bytes o

/-- Settles O2: a command's word and a frame's bytes hold nothing but the instruction. -/
theorem encodeOfDecode : Obligations.EncodeOfDecode := by
  intro f bs i h
  unfold decode at h
  split at h
  · next b0 b1 b2 b3 =>
    obtain ⟨hf, he⟩ := encodeWord_of_decodeCommand h
    exact ⟨hf, by rw [encode_of_hostCmd hf, he, wordBytes_append]⟩
  · cases h
  · obtain ⟨o, rfl, rfl⟩ := bytes_of_decodeFrame h
    exact ⟨format_frame o, rfl⟩

/-! ### Legality (R93) -/

/-- R93 without its bound on the opcode: RSVD and the fields that the opcode does not use are 0. -/
def UnusedFieldsZero (w : Word) : Prop :=
  rsvdField w = 0#8 ∧
    (opField w ≠ 0x04#8 → opField w ≠ 0x05#8 → opField w ≠ 0x0A#8 → arg16Field w = 0#16) ∧
    (opField w = 0x04#8 → bField w = 0#8)

theorem decodes_iff (w : Word) :
    (∃ i, decodeCommand w = .ok i) ↔ (opField w).toNat ≤ 0x10 ∧ UnusedFieldsZero w := by
  simp only [decodeCommand_eq_ok_iff, UnusedFieldsZero, exists_and_left, exists_or, exists_and_right, exists_eq,
    and_true]
  rw [exists_plainCommand_iff]
  by_cases h4 : opField w = 0x04#8
  · simp [h4]
  by_cases h5 : opField w = 0x05#8
  · simp [h5]
  by_cases hA : opField w = 0x0A#8
  · simp [hA]
  have hne (c : Byte) (h : opField w ≠ c) : (opField w).toNat ≠ c.toNat := mt BitVec.eq_of_toNat_eq h
  have hcodes : (opField w).toNat ≠ 0x04 ∧ (opField w).toNat ≠ 0x05 ∧ (opField w).toNat ≠ 0x0A :=
    ⟨hne _ h4, hne _ h5, hne _ hA⟩
  simp [h4, h5, hA, hcodes, and_left_comm]

/-- The row of the HOSTCMD32 table for an opcode: its mask leaves out the fields that the opcode uses. -/
def opcodeRow (n : Nat) : TableRow where
  mask := if n = 0x04 then 0xFFFF00FF#32 else if n = 0x05 ∨ n = 0x0A then 0xFF0000FF#32 else 0xFFFFFFFF#32
  value := BitVec.ofNat 32 n

theorem commandTable_eq : commandTable = (List.range 17).map opcodeRow := by decide

/-- The mask of a row is 0 in the fields that its opcode uses, and 1 elsewhere. -/
theorem opcodeRow_mask : ∀ n < 17,
    opField (opcodeRow n).mask = 0xFF#8 ∧
    aField (opcodeRow n).mask = (if n = 0x04 ∨ n = 0x05 ∨ n = 0x0A then 0x00#8 else 0xFF#8) ∧
    bField (opcodeRow n).mask = (if n = 0x05 ∨ n = 0x0A then 0x00#8 else 0xFF#8) ∧
    rsvdField (opcodeRow n).mask = 0xFF#8 := by decide

theorem opcodeRow_value : ∀ n < 17,
    opField (opcodeRow n).value = BitVec.ofNat 8 n ∧ aField (opcodeRow n).value = 0#8 ∧
    bField (opcodeRow n).value = 0#8 ∧ rsvdField (opcodeRow n).value = 0#8 := by decide

theorem fields_and (w v : Word) :
    opField (w &&& v) = opField w &&& opField v ∧ aField (w &&& v) = aField w &&& aField v ∧
    bField (w &&& v) = bField w &&& bField v ∧ rsvdField (w &&& v) = rsvdField w &&& rsvdField v :=
  ⟨BitVec.extractLsb'_and, BitVec.extractLsb'_and, BitVec.extractLsb'_and, BitVec.extractLsb'_and⟩

theorem opField_eq_ofNat_iff {n : Nat} (hn : n < 17) : opField w = BitVec.ofNat 8 n ↔ n = (opField w).toNat := by
  constructor
  · intro h
    rw [h, BitVec.toNat_ofNat, Nat.mod_eq_of_lt (by omega)]
  · rintro rfl
    simp

/-- A word matches the row of its own opcode, if R93 holds of its other fields, and no other row. -/
theorem matches_opcodeRow_iff {n : Nat} (hn : n < 17) : w &&& (opcodeRow n).mask = (opcodeRow n).value ↔
    n = (opField w).toNat ∧ UnusedFieldsZero w := by
  have hand (x : Byte) : x &&& 0xFF#8 = x := BitVec.and_allOnes
  obtain ⟨hmop, hma, hmb, hmr⟩ := opcodeRow_mask n hn
  obtain ⟨hvop, hva, hvb, hvr⟩ := opcodeRow_value n hn
  obtain ⟨hop, ha, hb, hr⟩ := fields_and w (opcodeRow n).mask
  rw [word_eq_iff_fields, hop, ha, hb, hr, hmop, hma, hmb, hmr, hvop, hva, hvb, hvr, hand, hand,
    opField_eq_ofNat_iff hn]
  simp only [UnusedFieldsZero, arg16Field_eq_zero_iff]
  refine and_congr_right fun h => ?_
  have hcode (c : Byte) : opField w = c ↔ n = c.toNat := by rw [h, BitVec.toNat_inj]
  simp only [ne_eq, hcode, BitVec.toNat_ofNat, Nat.reducePow, Nat.reduceMod]
  by_cases h4 : n = 0x04
  · simp [h4, hand, and_comm]
  by_cases h5 : n = 0x05
  · simp [h5]
  by_cases hA : n = 0x0A
  · simp [hA]
  simp only [h4, h5, hA, or_self, if_false, hand, not_false_eq_true, forall_const, false_imp_iff, and_true]
  exact ⟨fun ⟨ha, hb, hr⟩ => ⟨hr, ha, hb⟩, fun ⟨hr, ha, hb⟩ => ⟨ha, hb, hr⟩⟩

/-- Settles O3: by the fields; and in the table the only row that can match is that of the word's opcode. -/
theorem commandLegality : Obligations.CommandLegality := by
  refine fun w => ⟨decodes_iff w, ?_⟩
  classical
  have hrows : (List.range 17).filter ((fun r => decide (w &&& r.mask = r.value)) ∘ opcodeRow) =
      (List.range 17).filter fun n => decide (n = (opField w).toNat ∧ UnusedFieldsZero w) :=
    List.filter_congr fun n hn => by simp [matches_opcodeRow_iff (List.mem_range.1 hn)]
  rw [decodes_iff, commandTable_eq, List.filter_map, List.length_map, hrows]
  by_cases hz : UnusedFieldsZero w
  · simp [hz, List.filter_eq, List.count_range, Nat.lt_succ_iff]
  · simp [hz]

/-! ### The assembler (R100) -/

/-- Reading an operand back: the whole numbers up to the bound. -/
theorem natArg_eq_some_iff {q : ℚ} {max n : Nat} : natArg q max = some n ↔ q = n ∧ n ≤ max := by
  unfold natArg
  constructor
  · intro h
    split at h
    · next hq =>
      obtain ⟨hden, hnonneg, hle⟩ := hq
      cases h
      have hnum : ((q.num.toNat : ℤ) : ℚ) = q := by
        rw [Int.toNat_of_nonneg hnonneg, (Rat.den_eq_one_iff q).1 hden]
      exact ⟨by exact_mod_cast hnum.symm, by omega⟩
    · cases h
  · rintro ⟨rfl, hle⟩
    simp [hle]

theorem natArg_natCast {n max : Nat} (h : n ≤ max) : natArg n max = some n := natArg_eq_some_iff.2 ⟨rfl, h⟩

/-- A command word as its fields shifted into place. -/
theorem commandWord_eq (op a b : Byte) :
    commandWord op a b = op.setWidth 32 ||| a.setWidth 32 <<< 8 ||| b.setWidth 32 <<< 16 := by
  have h := BitVec.setWidth_append_append_append_eq_shiftLeft_setWidth_or (w'''' := 32) (b := 0#8) (b' := b) (b'' := a)
    (b''' := op)
  rw [BitVec.setWidth_eq] at h
  rw [commandWord, h]
  simp only [BitVec.setWidth_zero, BitVec.zero_shiftLeft, BitVec.zero_or]
  rw [BitVec.or_comm, BitVec.or_comm (b.setWidth 32 <<< (8 + 8)), BitVec.or_assoc]

/-- The rate as `ARG16` shifted into place. -/
theorem encodeWord_setRefreshRate (r : Half) :
    encodeWord (.setRefreshRate r) = 0x0000000A#32 ||| r.setWidth 32 <<< 8 := by
  have hr : r.setWidth 32 = (r.extractLsb' 8 8).setWidth 32 <<< 8 ||| (r.extractLsb' 0 8).setWidth 32 := by
    rw [← BitVec.setWidth_append_eq_shiftLeft_setWidth_or, half_of_bytes]
  rw [hr, encodeWord, commandWord_eq, BitVec.shiftLeft_or_distrib, ← BitVec.shiftLeft_add, BitVec.or_assoc]
  exact congrArg _ (BitVec.or_comm _ _)

/-- Settles O6: an operand in range is read back by `natArg`, and its word is the opcode with the operands shifted in. -/
theorem assemblerWords : Obligations.AssemblerWords := by
  refine ⟨fun v hv => ?_, fun l m hl hm => ?_, fun h hh => ?_, fun r hr => ?_, by decide⟩
  · have hword : assemble "WRITE_TRIM" [(v : ℚ)] = some (.writeTrim (BitVec.ofNat 8 v)) := by
      simp [assemble, natArg_natCast hv]
    rw [hword, Option.map_some, encodeWord, commandWord_eq,
      BitVec.setWidth_ofNat_of_le_of_lt (x := v) (by decide) (by omega)]
    simp
  · have hword : assemble "WRITE_CONFIG" [(l : ℚ), (m : ℚ)] =
        some (.writeConfig (BitVec.ofNat 8 l) (BitVec.ofNat 8 m)) := by
      simp [assemble, natArg_natCast hl, natArg_natCast hm]
    rw [hword, Option.map_some, encodeWord, commandWord_eq,
      BitVec.setWidth_ofNat_of_le_of_lt (x := l) (by decide) (by omega),
      BitVec.setWidth_ofNat_of_le_of_lt (x := m) (by decide) (by omega)]
    simp
  · have hword : assemble "SET_REFRESH_RATE" [(h : ℚ) / 2] = some (.setRefreshRate (BitVec.ofNat 16 h)) := by
      simp [assemble, mul_div_cancel₀, natArg_natCast hh]
    rw [hword, Option.map_some, encodeWord_setRefreshRate,
      BitVec.setWidth_ofNat_of_le_of_lt (by decide) (by omega)]
  · have hnone : natArg (2 * r) 65535 = none := by
      cases hn : natArg (2 * r) 65535 with
      | none => rfl
      | some n =>
        obtain ⟨he, hle⟩ := natArg_eq_some_iff.1 hn
        exact absurd ⟨n, hle, by linarith⟩ hr
    simp [assemble, hnone]

end Sys2Proof.Proofs
end

section
/-! The submission of a command word: the step of a host write to CMD, the rejection of a word, and the acceptance of a
command (spec/30_encoding.md R90, spec/60_exceptions.md R296, R297). -/

namespace Sys2Proof.Proofs

open Sys2Proof.Machine

variable {s : State} {w : Word} {i : Instr} {rest : List Input}

/-! ### A host write to CMD -/

theorem step_hostWrite_cmd (hi : s.inputs = .hostWrite 4 0x000#12 w :: rest) :
    step s = submitWord w { s with inputs := rest } := by
  have h0 : (0x000#12 : BitVec 12).toNat % 4 = 0 := rfl
  simp only [step, hi, accessFault_of_aligned h0, writeAccess, if_true]

theorem submitWord_ok (h : decodeCommand w = .ok i) : submitWord w s = exec i s := by
  simp only [submitWord, h]

/-- Settles O7: an admitted write to CMD submits the word, and a legal word is executed. -/
theorem stepRunsSubmittedCommand : Obligations.StepRunsSubmittedCommand := fun _ _ _ _ hi hd =>
  (step_hostWrite_cmd hi).trans (submitWord_ok hd)

/-! ### Rejection -/

/-- A legal word that is not STOP's opcode is a command that runs. -/
theorem runsCommand_of_decodeCommand (h : decodeCommand w = .ok i) (hop : opField w ≠ 0x10#8) :
    runsCommand i = true := by
  rcases decodeCommand_runs h with hr | rfl
  · exact hr
  · rw [← (encodeWord_of_decodeCommand h).2] at hop
    exact absurd (opField_commandWord _ _ _) hop

/-- A word is rejected where it is illegal, and, legal or not, where the block is busy and its opcode is not STOP's
(R90, R297). -/
theorem submitWord_rejected (h : (∀ i, decodeCommand w ≠ .ok i) ∨ (s.busy = true ∧ opField w ≠ 0x10#8)) :
    submitWord w s = .next (rejectIllegal w s) := by
  cases hd : decodeCommand w with
  | error e => simp only [submitWord, hd]
  | ok i =>
    obtain ⟨hb, hop⟩ := h.resolve_left fun hill => hill i hd
    rw [submitWord_ok hd, exec_busy (runsCommand_of_decodeCommand hd hop) hb, rejectIllegal, if_pos ⟨hb, hop⟩]

/-- The step of a busy block at the end of its command, nothing else being due (R296). -/
theorem step_finish (hb : s.busy = true) (hi : s.inputs = []) (hp : s.busPort = none) (hq : s.seq = .finish) :
    step s = .next (commandEnd .normal s) := by
  have hmove : seqStep s = commandEnd .normal s := by simp only [seqStep, hq]
  rw [step_nothing_due hi, advanceSeq_resume hp, resume, if_pos hb, hmove, runSeq_atRest rfl]

/-- Settles O9: the rejection's cause is decided by `rejectIllegal`, busy first; a normal end is one move. -/
theorem wordRejected : Obligations.WordRejected :=
  ⟨fun _ _ _ hi hw => (step_hostWrite_cmd hi).trans (submitWord_rejected hw),
    fun _ hb hi hp hq => step_finish hb hi hp hq⟩

/-! ### Acceptance -/

theorem firstPosition_ne_idle (p : Params) (i : Instr) : firstPosition p i ≠ .idle := by
  cases i <;> exact nofun

theorem beforeAccept_of_ne_run (h : i ≠ .run) : beforeAccept i s = s := if_neg h

/-- RUN's acceptance commits LOOP_STATE and RETRY_CNT (R256). -/
theorem beforeAccept_run (hb : s.busy = false) :
    beforeAccept .run s = { s with loopState := .initializing, retryCnt := 0 } := by
  simp [beforeAccept, startRun, hb]

/-- Settles O10: an outside event that is due stops the run of moves before its first one. -/
theorem commandAccepted : Obligations.CommandAccepted := by
  intro s i e rest hb hi he hr
  have hdue : (accept (encodeWord i) (firstPosition s.params i) (beforeAccept i s)).inputs = e :: rest := by
    rw [beforeAccept_eq]
    exact hi
  refine ⟨firstPosition s.params i, (beforeAccept i s).loopState, (beforeAccept i s).retryCnt, ?_,
    firstPosition_ne_idle _ i, fun hne => ?_, ?_⟩
  · rw [exec_accept hr hb, runSeq_due he hdue, beforeAccept_eq]
    rfl
  · rw [beforeAccept_of_ne_run hne]
    exact ⟨rfl, rfl⟩
  · rintro rfl
    rw [beforeAccept_run hb]
    exact ⟨rfl, rfl⟩

end Sys2Proof.Proofs
end

section
/-! The bus frames: the check bytes of the write frames, and the execution of a frame as one transaction whose answer is
committed as the frame decides, with an operation waiting for it or without (spec/41_bus_frames.md R121 to R134). -/

namespace Sys2Proof.Proofs

open Sys2Proof.Machine

variable {s : State} {a : BusAddr} {e : Event}

/-! ### Check bytes -/

theorem toNat_chk (b k : Byte) : ((chk b k).toNat : Int) = ((b.toNat : Int) - (k.toNat : Int)) % 256 := by
  have hb := b.isLt
  have hk := k.isLt
  rw [chk, BitVec.toNat_sub]
  omega

@[simp] theorem chk_add_cancel (b k : Byte) : chk b k + k = b := BitVec.sub_add_cancel b k

@[simp] theorem add_chk_cancel (b k : Byte) : chk (b + k) k = b := BitVec.add_sub_cancel b k

/-- Adding the subtrahend inverts the check byte on both sides. -/
theorem chk_bijective (k : Byte) : Function.Bijective fun b => chk b k :=
  Function.bijective_iff_has_inverse.2 ⟨(· + k), fun b => chk_add_cancel b k, fun b => add_chk_cancel b k⟩

/-- Settles O5, from the modular difference, its inverse, and the eight boundary values evaluated. -/
theorem checkByteFunction : Obligations.CheckByteFunction :=
  ⟨fun b k => ⟨toNat_chk b k, chk_add_cancel b k⟩, chk_bijective, by decide, by decide⟩

/-! ### One frame -/

/-- The operation that waits for the frame has targeted the bus already. -/
theorem sentFrame_bus {o : BusOp} {k : Cont} (hq : s.seq = .bus o k) :
    sentFrame a e s = { sent a e s with trace := e :: s.trace } := by
  simp only [sentFrame, hq]

/-- With no operation waiting, the bus is targeted with the transaction. -/
theorem sentFrame_alone (hq : ∀ o k, s.seq ≠ .bus o k) : sentFrame a e s = sent a e s := by
  unfold sentFrame
  split
  · next o k h => exact absurd h (hq o k)
  · rfl

/-- A commit leaves the position and POR_OBS alone. -/
theorem commitAnswer_position (o : BusOp) (r : Option (List Byte)) (s : State) :
    { commitAnswer o r s with seq := s.seq, porObs := s.porObs } = commitAnswer o r s := by
  cases o <;> cases r <;> rfl

/-- Executing a frame commits its answer to the state in which its transaction has been sent (R121 to R129, R134): the
operation that waits for it takes the result on, which moves the position and POR_OBS only. -/
theorem frameLeaves_commitAnswer (o : BusOp) {r : Option (List Byte)} (ha : s.busAnswer o.respLen = r) :
    frameLeaves o.frame s (commitAnswer o r (sentFrame o.target (o.event r) s)) := by
  by_cases hq : ∀ o' k, s.seq ≠ .bus o' k
  · refine ⟨s.seq, s.porObs, ?_, fun _ => ⟨rfl, rfl⟩⟩
    rw [exec_frame, transact_alone hq, transaction_eq ha, sentFrame_alone hq]
    exact congrArg _ (commitAnswer_position o r (sent o.target (o.event r) s)).symm
  · push Not at hq
    obtain ⟨o', k, hq⟩ := hq
    have hsent : transaction o s = commitAnswer o r (sentFrame o.target (o.event r) s) := by
      rw [sentFrame_bus hq, ← ha]
      rfl
    refine ⟨(deliver (o.result r) k (transaction o s)).seq, (deliver (o.result r) k (transaction o s)).porObs, ?_,
      fun halone => absurd hq (halone o' k)⟩
    rw [exec_frame, transact_bus hq, ha, deliver_eq, hsent]

/-! ### The read frames -/

/-- Memory after a raw frame has been committed (R126). -/
theorem read_writeBlock_irBase (m : Memory) {b : List Byte} (hl : b.length = 128) (x : Nat) :
    (m.writeBlock irBase b).read x = if 0x200 ≤ x ∧ x < 0x280 then b.getD (x - 0x200) 0#8 else m.read x := by
  simp only [Memory.read_writeBlock, hl, irBase]

/-- Settles O45: each clause is the one transaction of its frame, for its answer; EE and RAW_IR take a response that has
the length asked for. -/
theorem readFramesComplete : Obligations.ReadFramesComplete := fun s =>
  ⟨frameLeaves_commitAnswer .eeDump,
    fun _ he => ⟨_, frameLeaves_commitAnswer .eeDump he, holdsImage_writeBlock (busAnswer_length he)⟩,
    frameLeaves_commitAnswer .irRead,
    fun _ hb => ⟨_, frameLeaves_commitAnswer .irRead hb, read_writeBlock_irBase s.mem (busAnswer_length hb)⟩,
    fun h => ⟨frameLeaves_commitAnswer .cfgRead h, frameLeaves_commitAnswer .ptatRead h,
      frameLeaves_commitAnswer .cpRead h⟩,
    fun _ _ h => ⟨frameLeaves_commitAnswer .cfgRead h, frameLeaves_commitAnswer .ptatRead h,
      frameLeaves_commitAnswer .cpRead h⟩⟩

/-! ### The write frames -/

/-- Settles O46: the check bytes stand in the frame as they are, and neither commit reads the answer. -/
theorem writeFramesComplete : Obligations.WriteFramesComplete := by
  rintro s c v l d m _ rfl
  exact ⟨frameLeaves_commitAnswer (.trimWrite c v) rfl, frameLeaves_commitAnswer (.cfgWrite c l d m) rfl⟩

end Sys2Proof.Proofs
end

section
/-! The runs of the protocol commands. A command that was accepted from an idle block and stands at a position is
`accept` at that position, of the state its moves have left so far; what a session's moves, an operation and a command end
do is said once of a state of that form (spec/42_protocol_ops.md R150, R151, R153, spec/60_exceptions.md R296). -/

namespace Sys2Proof.Proofs

open Sys2Proof.Machine

variable {s : State} {w : Word} {i : Instr} {o : BusOp} {k : Cont} {c : Cause} {n : Nat} {r : Option (List Byte)}

/-! ### Submission on an idle block -/

theorem submit_idle (hb : s.busy = false) (q : Seq) : submit i q s = runSeq runFuel (accept (encodeWord i) q s) := by
  rw [submit, if_neg (by simp [hb])]

/-! ### Ends of an accepted command -/

theorem runSeq_accept_finish (hi : s.inputs = []) :
    runSeq (n + 1) (accept (encodeWord i) .finish s) = ended i .none evDone s :=
  runSeq_finish rfl hi rfl

theorem runSeq_accept_raise (hi : s.inputs = []) :
    runSeq (n + 1) (accept (encodeWord i) (.raiseCause c) s) = ended i c (evDone ||| evError) s :=
  runSeq_raise rfl hi rfl

/-- A flag observed set is reported in one move, before the normal end, and its cause is the one that the end writes
(R167, R294). -/
theorem runSeq_accept_porSeen (hi : s.inputs = []) :
    runSeq (n + 2) (accept (encodeWord i) .porSeen s) = ended i .powerOnReset (evDone ||| evPor) s := by
  have hevents : s.event ||| evPor ||| evDone = s.event ||| (evDone ||| evPor) := by
    rw [BitVec.or_assoc, BitVec.or_comm evPor]
  calc runSeq (n + 2) (accept (encodeWord i) .porSeen s)
    _ = runSeq (n + 1) { reportPor (accept (encodeWord i) .porSeen s) with seq := .finish } :=
      runSeq_to rfl hi rfl rfl
    _ = commandEnd .normal { reportPor (accept (encodeWord i) .porSeen s) with seq := .finish } :=
      runSeq_finish rfl hi rfl
    _ = { ended i .powerOnReset (evDone ||| evPor) s with event := s.event ||| evPor ||| evDone } := rfl
    _ = ended i .powerOnReset (evDone ||| evPor) s := by rw [hevents]; rfl

/-! ### Session commands -/

theorem runSeq_accept_openSession (hi : s.inputs = []) :
    runSeq (n + 5) (accept w (.openSession .command) s) =
      runSeq n (accept w .finish { s with sessionOpen := true, busClk := some 25000, trace := openingTrace s }) :=
  runSeq_openSession (s := accept w (.openSession .command) s) rfl hi rfl

theorem endSession_open (hs : s.sessionOpen = true) :
    endSession s = { s with sessionOpen := false, busClk := none, trace := .busEnd :: s.trace } := if_pos hs

theorem endSession_closed (hs : s.sessionOpen = false) : endSession s = s := if_neg (by simp [hs])

theorem endSession_inputs (s : State) : (endSession s).inputs = s.inputs := by
  unfold endSession
  split <;> rfl

theorem endSession_accept (q : Seq) : endSession (accept w q s) = accept w q (endSession s) := by
  cases hs : s.sessionOpen
  · rw [endSession_closed hs, endSession_closed (s := accept w q s) hs]
  · rw [endSession_open hs, endSession_open (s := accept w q s) hs]
    rfl

theorem runSeq_accept_closeSession (hi : s.inputs = []) :
    runSeq (n + 1) (accept w .closeSession s) = runSeq n (accept w .finish (endSession s)) := by
  have hmove : seqStep (accept w .closeSession s) = { endSession (accept w .closeSession s) with seq := .finish } := rfl
  refine runSeq_to rfl hi rfl (hmove.trans ?_)
  rw [endSession_accept]
  rfl

/-- Settles O12, by the five moves of an opening and the one of a closing. -/
theorem sessionCommandsComplete : Obligations.SessionCommandsComplete := by
  rintro s ⟨hb, hi⟩
  have hclose : exec .sessionClose s = .next (ended .sessionClose .none evDone (endSession s)) := congrArg _ <|
    (submit_idle hb _).trans <| (runSeq_accept_closeSession hi).trans <|
      runSeq_accept_finish ((endSession_inputs s).trans hi)
  refine ⟨congrArg _ <| (submit_idle hb _).trans <| (runSeq_accept_openSession hi).trans <| runSeq_accept_finish hi,
    fun hs => ?_, fun hs => ?_⟩
  · rw [hclose, endSession_open hs]
  · rw [hclose, endSession_closed hs]

/-! ### Operations -/

/-- The state that an answered transaction of the operation `o` leaves (R72, R134). -/
abbrev answered (o : BusOp) (r : Option (List Byte)) (s : State) : State :=
  commitAnswer o r (sent o.target (o.event r) s)

theorem answered_inputs (o : BusOp) (r : Option (List Byte)) (s : State) : (answered o r s).inputs = s.inputs := by
  cases o <;> cases r <;> rfl

/-- A transaction neither reads nor writes what the acceptance of a command sets. -/
theorem answered_accept (o : BusOp) (r : Option (List Byte)) (w : Word) (q : Seq) (s : State) :
    answered o r (accept w q s) = accept w q (answered o r s) := by
  cases o <;> cases r <;> rfl

/-- The operation of an accepted command, a session being open: the answered transaction's result goes to the place that
called the operation (R153). -/
theorem runSeq_accept_op (hi : s.inputs = []) (hs : s.sessionOpen = true) (ha : s.busAnswer o.respLen = r) :
    runSeq (n + 3) (accept w (.op o k) s) =
      runSeq n (deliver (o.result r) k (accept w (.op o k) (answered o r s))) :=
  (runSeq_op (s := accept w (.op o k) s) rfl hi hs rfl ha).trans
    (congrArg (fun t => runSeq n (deliver (o.result r) k t)) (answered_accept o r w _ s))

/-- The operation of an accepted command without a session (R153). -/
theorem runSeq_accept_op_closed (hi : s.inputs = []) (hs : s.sessionOpen = false) :
    runSeq (n + 1) (accept w (.op o k) s) =
      runSeq n (deliver (.fail .sessionClosed) k (accept w (.op o k) s)) :=
  runSeq_op_closed rfl hi hs rfl

/-- The places at which a failed operation ends its command with the operation's cause (R153, R164, R167). -/
def RaisesFailure (k : Cont) : Prop := ∀ c s, deliver (.fail c) k s = { s with seq := .raiseCause c }

theorem raisesFailure_command : RaisesFailure .command := fun _ _ => rfl
theorem raisesFailure_checkPor : RaisesFailure .checkPor := fun _ _ => rfl
theorem raisesFailure_rateRead (code : BitVec 4) : RaisesFailure (.rateRead code .command) := fun _ _ => rfl
theorem raisesFailure_rateWrite (code : BitVec 4) : RaisesFailure (.rateWrite code .command) := fun _ _ => rfl

/-- An accepted command ends with the cause of its failed operation, what the failure commits kept (R153). -/
theorem runSeq_accept_op_fail (hk : RaisesFailure k) (hi : s.inputs = []) (hs : s.sessionOpen = true)
    (ha : s.busAnswer o.respLen = none) :
    runSeq (n + 4) (accept (encodeWord i) (.op o k) s) =
      ended i o.failCause (evDone ||| evError) (answered o none s) := by
  have hraise : deliver (o.result none) k (accept (encodeWord i) (.op o k) (answered o none s)) =
      accept (encodeWord i) (.raiseCause o.failCause) (answered o none s) := hk _ _
  rw [runSeq_accept_op hi hs ha, hraise, runSeq_accept_raise ((answered_inputs o none s).trans hi)]

/-- A command whose first operation finds no session (R153). -/
theorem submit_op_closed (hk : RaisesFailure k) (hq : s.quiet) (hs : s.sessionOpen = false) :
    submit i (.op o k) s = ended i .sessionClosed (evDone ||| evError) s := by
  have hraise : deliver (.fail .sessionClosed) k (accept (encodeWord i) (.op o k) s) =
      accept (encodeWord i) (.raiseCause .sessionClosed) s := hk _ _
  calc submit i (.op o k) s
    _ = runSeq runFuel (accept (encodeWord i) (.op o k) s) := submit_idle hq.1 _
    _ = runSeq 63 (deliver (.fail .sessionClosed) k (accept (encodeWord i) (.op o k) s)) :=
      runSeq_accept_op_closed hq.2 hs
    _ = ended i .sessionClosed (evDone ||| evError) s := by rw [hraise, runSeq_accept_raise hq.2]

/-- A command whose first operation fails (R153). -/
theorem submit_op_fail (hk : RaisesFailure k) (hq : s.quiet) (hs : s.sessionOpen = true)
    (ha : s.busAnswer o.respLen = none) :
    submit i (.op o k) s = ended i o.failCause (evDone ||| evError) (answered o none s) :=
  (submit_idle hq.1 _).trans (runSeq_accept_op_fail hk hq.2 hs ha)

/-- A command whose first operation is answered goes on with the result. -/
theorem submit_op_answered {bs : List Byte} (hq : s.quiet) (hs : s.sessionOpen = true)
    (ha : s.busAnswer o.respLen = some bs) :
    submit i (.op o k) s =
      runSeq 61 (deliver .ok k (accept (encodeWord i) (.op o k) (answered o (some bs) s))) :=
  (submit_idle hq.1 _).trans (runSeq_accept_op hq.2 hs ha)

/-- A command of one operation that is answered ends normally. -/
theorem submit_op_ok {bs : List Byte} (hq : s.quiet) (hs : s.sessionOpen = true)
    (ha : s.busAnswer o.respLen = some bs) :
    submit i (.op o .command) s = ended i .none evDone (answered o (some bs) s) :=
  (submit_op_answered hq hs ha).trans (runSeq_accept_finish ((answered_inputs o _ s).trans hq.2))

end Sys2Proof.Proofs
end

section
/-! The protocol commands from their runs: what each of the three outcomes of an operation, no session, a failed
transaction and an answered one, leaves of the state (spec/42_protocol_ops.md R152 to R167). -/

namespace Sys2Proof.Proofs

open Sys2Proof.Machine

variable {s t : State} {w : Word}

/-! ### Commands of one operation -/

/-- Settles O13: the response of 256 bytes fills the image's window, and only it. -/
theorem readEepromCompletes : Obligations.ReadEepromCompletes := by
  intro s hq
  refine ⟨fun hs => congrArg _ (submit_op_closed raisesFailure_command hq hs),
    fun hs ha => congrArg _ (submit_op_fail (o := .eeDump) raisesFailure_command hq hs ha), fun e hs ha => ?_⟩
  have hl : e.length = 256 := busAnswer_length ha
  refine ⟨_, congrArg Host.Outcome.next (submit_op_ok (o := .eeDump) hq hs ha), rfl, hl,
    fun a => congrFun (ee_writeBlock (s := s) hl rfl) a, fun a hout => ?_⟩
  exact (holdsImage_writeBlock hl a).trans (if_neg hout)

/-- Settles O14: the trim write commits nothing, whatever its answer. -/
theorem writeTrimCompletes : Obligations.WriteTrimCompletes := fun _ v hq =>
  ⟨fun hs => congrArg _ (submit_op_closed raisesFailure_command hq hs),
    fun hs ha => congrArg _ (submit_op_fail (o := trimOp v) raisesFailure_command hq hs ha),
    fun _ hs ha => congrArg _ (submit_op_ok (o := trimOp v) hq hs ha)⟩

/-- Settles O15: the configuration write clears CFG_VALID, whatever its answer. -/
theorem writeConfigCompletes : Obligations.WriteConfigCompletes := fun _ l m hq =>
  ⟨fun hs => congrArg _ (submit_op_closed raisesFailure_command hq hs),
    fun hs ha => congrArg _ (submit_op_fail (o := cfgOp l m) raisesFailure_command hq hs ha),
    fun _ hs ha => congrArg _ (submit_op_ok (o := cfgOp l m) hq hs ha)⟩

/-- Settles O16: a failed read clears CFG_VALID, an answered one takes both bytes. -/
theorem readConfigCompletes : Obligations.ReadConfigCompletes := fun _ hq =>
  ⟨fun hs => congrArg _ (submit_op_closed raisesFailure_command hq hs),
    fun hs ha => congrArg _ (submit_op_fail (o := .cfgRead) raisesFailure_command hq hs ha),
    fun _ _ hs ha => congrArg _ (submit_op_ok (o := .cfgRead) hq hs ha)⟩

/-- Settles O17: the two reads differ in their frame and in the register that takes the answer. -/
theorem readPtatAndCpComplete : Obligations.ReadPtatAndCpComplete := fun _ hq =>
  ⟨fun hs => ⟨congrArg _ (submit_op_closed raisesFailure_command hq hs),
      congrArg _ (submit_op_closed raisesFailure_command hq hs)⟩,
    fun hs ha => ⟨congrArg _ (submit_op_fail (o := .ptatRead) raisesFailure_command hq hs ha),
      congrArg _ (submit_op_fail (o := .cpRead) raisesFailure_command hq hs ha)⟩,
    fun _ _ hs ha => ⟨congrArg _ (submit_op_ok (o := .ptatRead) hq hs ha),
      congrArg _ (submit_op_ok (o := .cpRead) hq hs ha)⟩⟩

/-- The raw values after a raw frame has been committed: little-endian pairs of its bytes (R161). -/
theorem ir_writeBlock {b : List Byte} (hl : b.length = 128) (ht : t.mem = s.mem.writeBlock irBase b) {x : Nat}
    (hx : x < 64) : t.ir x = rawOf b x := by
  have hbyte : ∀ j < 128, t.mem.read (irBase + j) = b.getD j 0#8 := by
    intro j hj
    rw [ht, Memory.read_writeBlock, hl, if_pos (by omega), Nat.add_sub_cancel_left]
  rw [State.ir, Memory.read16, Nat.add_assoc, hbyte _ (by omega), hbyte _ (by omega)]
  rfl

/-- Settles O18: the response of 128 bytes fills RAW_IR's window, and only it. -/
theorem readIrCompletes : Obligations.ReadIrCompletes := by
  intro s hq
  refine ⟨fun hs => congrArg _ (submit_op_closed raisesFailure_command hq hs),
    fun hs ha => congrArg _ (submit_op_fail (o := .irRead) raisesFailure_command hq hs ha), fun b hs ha => ?_⟩
  have hl : b.length = 128 := busAnswer_length ha
  refine ⟨_, congrArg Host.Outcome.next (submit_op_ok (o := .irRead) hq hs ha), rfl, hl,
    fun x hx => ir_writeBlock (s := s) hl rfl hx, fun a hout => ?_⟩
  exact (read_writeBlock_irBase s.mem hl a).trans (if_neg hout)

/-! ### CHECK_POR -/

/-- Settles O21: an answered read goes on to the report of the flag or to the normal end, as the flag is. -/
theorem checkPorCompletes : Obligations.CheckPorCompletes := by
  intro s hq
  refine ⟨fun hs => congrArg _ (submit_op_closed raisesFailure_checkPor hq hs),
    fun hs ha => congrArg _ (submit_op_fail (o := .cfgRead) raisesFailure_checkPor hq hs ha),
    fun l m hs ha => congrArg _ ((submit_op_answered (o := .cfgRead) hq hs ha).trans ?_)⟩
  have hdeliver : deliver .ok .checkPor
        (accept (encodeWord .checkPor) (.op .cfgRead .checkPor) (answered .cfgRead (some [l, m]) s)) =
      accept (encodeWord .checkPor) (if porFlag s.params m then .porSeen else .finish)
        (answered .cfgRead (some [l, m]) s) := rfl
  have hflag : porFlag s.params m = true ↔ m.getLsbD 2 = s.params.porActiveLevel := beq_iff_eq
  rw [hdeliver]
  by_cases h : m.getLsbD 2 = s.params.porActiveLevel
  · rw [if_pos (hflag.2 h), if_pos h, if_pos h]
    exact runSeq_accept_porSeen hq.2
  · rw [if_neg (mt hflag.1 h), if_neg h, if_neg h]
    exact runSeq_accept_finish hq.2

/-! ### SET_REFRESH_RATE -/

/-- An answered read of the configuration: the write that follows replaces the low nibble of the LSB read (R165). -/
theorem submit_rateRead {i : Instr} {code : BitVec 4} {l m : Byte} (hq : s.quiet) (hs : s.sessionOpen = true)
    (ha : s.busAnswer 2 = some [l, m]) :
    submit i (.op .cfgRead (.rateRead code .command)) s =
      runSeq 61 (accept (encodeWord i) (.op (cfgOp (rateLsb l code) m) (.rateWrite code .command))
        (answered .cfgRead (some [l, m]) s)) := by
  have hdeliver : deliver .ok (.rateRead code .command)
        (accept (encodeWord i) (.op .cfgRead (.rateRead code .command)) (answered .cfgRead (some [l, m]) s)) =
      accept (encodeWord i) (.op (cfgOp (rateLsb l code) m) (.rateWrite code .command))
        (answered .cfgRead (some [l, m]) s) := rfl
  rw [submit_op_answered (o := .cfgRead) hq hs ha, hdeliver]

/-- SET_REFRESH_RATE's last line, a move of its own (R164). -/
theorem runSeq_accept_rateCommit {code : BitVec 4} {n : Nat} (hi : s.inputs = []) :
    runSeq (n + 1) (accept w (.rateCommit code .command) s) =
      runSeq n (accept w .finish { s with rateCode := code, rateValid := true }) :=
  runSeq_to (s := accept w (.rateCommit code .command) s) rfl hi rfl rfl

/-- An answered write of the configuration: the code is committed before the normal end (R164). -/
theorem runSeq_accept_rateWrite {i : Instr} {code : BitVec 4} {o : BusOp} {bs : List Byte} {n : Nat}
    (hi : s.inputs = []) (hs : s.sessionOpen = true) (ha : s.busAnswer o.respLen = some bs) :
    runSeq (n + 5) (accept (encodeWord i) (.op o (.rateWrite code .command)) s) =
      ended i .none evDone { answered o (some bs) s with rateCode := code, rateValid := true } := by
  have hi' : (answered o (some bs) s).inputs = [] := (answered_inputs o _ s).trans hi
  have hdeliver : deliver (o.result (some bs)) (.rateWrite code .command)
        (accept (encodeWord i) (.op o (.rateWrite code .command)) (answered o (some bs) s)) =
      accept (encodeWord i) (.rateCommit code .command) (answered o (some bs) s) := rfl
  rw [runSeq_accept_op hi hs ha, hdeliver, runSeq_accept_rateCommit hi']
  exact runSeq_accept_finish hi'

/-- Settles O19: the read, then the write, whose answer is the oracle's second one. -/
theorem setRefreshRateCompletes : Obligations.SetRefreshRateCompletes := by
  intro s h hq
  refine ⟨fun hs => congrArg _ (submit_op_closed (raisesFailure_rateRead _) hq hs),
    fun hs ha => congrArg _ (submit_op_fail (o := .cfgRead) (raisesFailure_rateRead _) hq hs ha), ?_⟩
  rintro l m n code hs ha rfl rfl
  have hread := submit_rateRead (i := .setRefreshRate h) (code := rateCodeOf s.params h) hq hs ha
  have hnext {r : Option (List Byte)} (hw : s.answerAt 1 0 = r) :
      (answered .cfgRead (some [l, m]) s).busAnswer 0 = r :=
    busAnswer_of_answerAt hw List.drop_one.symm rfl
  refine ⟨fun hw => congrArg _ (hread.trans ?_), fun r hw => congrArg _ (hread.trans ?_)⟩
  · exact runSeq_accept_op_fail (s := answered .cfgRead (some [l, m]) s) (o := cfgOp _ m) (raisesFailure_rateWrite _)
      hq.2 hs (hnext hw)
  · exact runSeq_accept_rateWrite (s := answered .cfgRead (some [l, m]) s) (o := cfgOp _ m) hq.2 hs (hnext hw)

/-! ### The refresh-rate codes -/

theorem rateOf_arg16 (r : Rate) : rateOf r.arg16 = some r := by
  cases r <;> rfl

theorem rateOf_eq_none {h : Half} (hr : ∀ r : Rate, r.arg16 ≠ h) : rateOf h = none :=
  List.find?_eq_none.2 fun r _ => by simpa using hr r

/-- Settles O20: a documented rate by its row of the table, every other value by the fallback rate. -/
theorem rateCodeTable : Obligations.RateCodeTable := by
  intro h
  by_cases hr : ∃ r : Rate, r.arg16 = h
  · obtain ⟨r, rfl⟩ := hr
    rw [rateCodeOf, rateOf_arg16]
    cases r <;> rfl
  · push Not at hr
    have hne : ∀ (r : Rate) (x y : BitVec 4), (if h = r.arg16 then x else y) = y := fun r _ _ => if_neg (hr r).symm
    rw [rateCodeOf, rateOf_eq_none hr]
    exact ((hne .hz512 _ _).trans <| (hne .hz256 _ _).trans <| (hne .hz128 _ _).trans <| (hne .hz64 _ _).trans <|
      (hne .hz32 _ _).trans <| (hne .hz16 _ _).trans <| (hne .hz8 _ _).trans <| (hne .hz4 _ _).trans <|
      (hne .hz2 _ _).trans <| (hne .hz1 _ _).trans (hne .hzHalf _ _)).symm

end Sys2Proof.Proofs
end

section
/-! What the gate's bit rests on: TA, whether it has been computed, TA_VALID and the format. A move of the sequencer
changes them by `ComputeTa`'s commit, or leaves them (spec/43_calibration.md R210, R212). -/

namespace Sys2Proof.Proofs

open Sys2Proof.Machine

/-- What `State.gated` reads of the state. -/
def gateView (s : State) : Bool × Bool × Fp × FpFormat := (s.taValid, s.taShown, s.ta, s.params.fpFormat)

theorem gated_congr {s t : State} (h : gateView t = gateView s) : s.gated ↔ t.gated := by
  simp only [gateView, Prod.mk.injEq] at h
  obtain ⟨hvalid, hshown, hta, hformat⟩ := h
  rw [State.gated, State.gated, hvalid, hshown, hta, hformat]

/-! ### What the shared operations leave alone -/

theorem gateView_deliver (res : OpResult) (k : Cont) (s : State) : gateView (deliver res k s) = gateView s := by
  rw [deliver_eq]
  rfl

theorem gateView_transaction (o : BusOp) (s : State) : gateView (transaction o s) = gateView s := by
  unfold transaction
  cases o <;> cases s.busAnswer _ <;> rfl

theorem gateView_transact (o : BusOp) (s : State) : gateView (transact o s) = gateView s := by
  unfold transact
  split
  · exact (gateView_deliver _ _ _).trans (gateView_transaction o s)
  · exact gateView_transaction o (s.setAddr o)

theorem gateView_endSession (s : State) : gateView (endSession s) = gateView s := by
  rw [endSession_eq]
  rfl

theorem gateView_shutdown (c : Cause) (s : State) : gateView (shutdown c s) = gateView s :=
  gateView_endSession s

theorem gateView_beginOp (o : BusOp) (k : Cont) (s : State) : gateView (beginOp o k s) = gateView s := by
  unfold beginOp
  split
  · rfl
  · exact gateView_deliver _ k s

theorem gateView_retryThenWait (c : Cause) (w : WaitKind) (p : Pause) (s : State) :
    gateView (retryThenWait c w p s) = gateView s := by
  unfold retryThenWait
  split <;> rfl

theorem gateView_afterWarn (n : AfterWarn) (s : State) : gateView (afterWarn n s) = gateView s := by
  cases n <;> rfl

theorem gateView_afterInit (i : InitCaller) (s : State) : gateView (afterInit i s) = gateView s := by
  cases i
  case faultedPhase => simp only [afterInit]; split <;> rfl
  all_goals rfl

theorem gateView_afterPause (p : Pause) (s : State) : gateView (afterPause p s) = gateView s := by
  unfold afterPause
  split
  · rfl
  · cases p <;> rfl

theorem gateView_beforeAccept (i : Instr) (s : State) : gateView (beforeAccept i s) = gateView s := by
  rw [beforeAccept_eq]
  rfl

theorem gateView_hostWrite (a : BitVec 12) (v : Word) (s : State) : gateView (hostWrite a v s) = gateView s := by
  rw [hostWrite_eq]
  rfl

/-! ### The gate -/

/-- `ComputeTa`'s commit gates the TA that it stores (R210, R212). -/
theorem gated_commitTa {s : State} (h : s.gated) : (commitTa s).gated := by
  unfold commitTa
  split
  · exact (Bool.true_and _).symm
  · exact h

/-- What one move can do to the gate's bit: it commits a `ComputeTa`, or leaves all that the bit rests on (R75). -/
theorem seqStep_gateView (s : State) :
    (∃ q, seqStep s = { commitTa s with seq := q }) ∨ gateView (seqStep s) = gateView s := by
  cases hq : s.seq <;> simp only [seqStep, hq]
  case computeTa => split <;> exact .inl ⟨_, rfl⟩
  case ambientTa a => split <;> exact .inl ⟨_, rfl⟩
  all_goals refine .inr ?_
  case idle => trivial
  case shutdown c => exact gateView_shutdown c s
  case closeSession => exact gateView_endSession s
  case openSession k => split <;> rfl
  case op o k => exact gateView_beginOp o k s
  case bus o k => exact gateView_transact o s
  case warning c n => exact gateView_afterWarn n (warn c s)
  case initDone i => exact gateView_afterInit i s
  case ambientRetry c => exact gateView_retryThenWait _ _ _ _
  case computeFrame => split <;> rfl
  case cycleFrame => split <;> rfl
  case faultedPhase => exact gateView_retryThenWait _ _ _ _
  case pause p => exact gateView_afterPause p s
  all_goals rfl

theorem gated_keeps : StepKeeps State.gated where
  grant _ _ h := h
  move s h _ := by
    rcases seqStep_gateView s with ⟨q, e⟩ | e
    · rw [e]
      exact gated_commitTa h
    · exact (gated_congr e).1 h
  frame s o h _ := (gated_congr (gateView_transact o s)).1 h
  accept s i h _ _ := (gated_congr (gateView_beforeAccept i s)).1 h
  reject _ _ h := h
  stopBusy _ h _ := h
  stopIdle s h _ := (gated_congr (gateView_shutdown .stopped { s with cmd := encodeWord .stop })).1 h
  deferred s h _ := (gated_congr (gateView_shutdown .stopped s)).1 h
  read _ _ h := h
  write s a v h := (gated_congr (gateView_hostWrite a v s)).1 h
  reset _ _ := rfl

/-- Settles O58: only the commit of `ComputeTa` writes what TA_VALID rests on, and it writes them by the gate. -/
theorem taGateKept : Obligations.TaGateKept := fun _ _ hgated hstep => gated_keeps.step hgated hstep

end Sys2Proof.Proofs
end

section
/-! The calibration's functions by themselves: the remap, the gate and the encoding against the rational value of an
encoding, and the stages of the pipeline over the image's bytes (spec/43_calibration.md R200 to R226). -/

namespace Sys2Proof.Proofs

open Sys2Proof.Machine

variable {f : FpFormat} {x : Fp} {neg : Bool} {m : Nat} {e : Int}

/-! ### The remap (R222, R223) -/

theorem rawIndex_eq (l : Nat) : rawIndex l = l % 16 * 4 + l / 16 := rfl

theorem logicalIndex_eq (x : Nat) : logicalIndex x = x % 4 * 16 + x / 4 := rfl

theorem rawIndex_lt {l : Nat} (h : l < 64) : rawIndex l < 64 := by
  rw [rawIndex_eq]
  omega

/-- Settles O28: both maps swap the quotient and the remainder of a division. -/
theorem remapBijection : Obligations.RemapBijection := by
  refine ⟨fun i hi j hj => ?_, fun x hx => ⟨rfl, ?_, ?_⟩, fun l hl => ⟨rawIndex_lt hl, ?_⟩⟩ <;>
    simp only [rawIndex_eq, logicalIndex_eq] <;> omega

/-! ### The value of an encoding -/

theorem two_zpow_of_nonneg (he : 0 ≤ e) : (2 : ℚ) ^ e = (2 ^ e.toNat : Nat) := by
  conv_lhs => rw [← Int.toNat_of_nonneg he]
  push_cast
  exact zpow_natCast 2 _

theorem two_zpow_of_neg (he : e < 0) : (2 : ℚ) ^ e = ((2 ^ (-e).toNat : Nat) : ℚ)⁻¹ := by
  rw [← two_zpow_of_nonneg (by omega), zpow_neg, inv_inv]

/-! ### The gate (R212) -/

/-- The comparison of a finite value with an integer is the one of its rational value. -/
theorem fpFiniteLeInt_iff (n : Int) (h : fpVal f x = .fin neg m e) :
    fpFiniteLeInt f x n = true ↔ finVal neg m e ≤ n := by
  have hsign : finVal neg m e = ((if neg then -(m : Int) else m : Int) : ℚ) * 2 ^ e := by
    cases neg <;> simp [finVal]
  rw [hsign]
  simp only [fpFiniteLeInt, h]
  generalize (if neg then -(m : Int) else m : Int) = v
  by_cases he : 0 ≤ e
  · rw [if_pos he, decide_eq_true_eq, two_zpow_of_nonneg he]
    norm_cast
  · rw [if_neg he, decide_eq_true_eq, two_zpow_of_neg (by omega), ← div_eq_mul_inv, div_le_iff₀ (by positivity)]
    norm_cast

/-- Settles O26: only a finite value passes, by the comparison of its value with 350. -/
theorem plausibilityGate : Obligations.PlausibilityGate := by
  intro f x
  cases h : fpVal f x with
  | nan => simp [plausible, fpIsFinite, h]
  | inf neg => simp [plausible, fpIsFinite, h]
  | fin neg m e =>
    have hgate : plausible f x = fpFiniteLeInt f x 350 := by simp [plausible, fpIsFinite, h]
    rw [hgate, fpFiniteLeInt_iff 350 h]
    constructor
    · exact fun hle => ⟨neg, m, e, rfl, hle⟩
    · rintro ⟨_, _, _, heq, hle⟩
      obtain ⟨rfl, rfl, rfl⟩ := FpVal.fin.inj heq
      exact hle

/-! ### The encoding (R225, R226) -/

/-- The magnitude that `roundHalfAway` rounds to. -/
def roundHalfUp (m : Nat) (e : Int) : Nat :=
  if 0 ≤ e then m * 2 ^ e.toNat else (2 * m + 2 ^ (-e).toNat) / (2 * 2 ^ (-e).toNat)

theorem roundHalfAway_cast (neg : Bool) (m : Nat) (e : Int) :
    (roundHalfAway neg m e : ℚ) = signOf neg * roundHalfUp m e := by
  have h : roundHalfAway neg m e = if neg then -(roundHalfUp m e : Int) else roundHalfUp m e := rfl
  rw [h]
  cases neg <;> simp

/-- The rounded magnitude is nearest, from above at a tie. -/
theorem roundHalfUp_bounds (m : Nat) (e : Int) :
    (roundHalfUp m e : ℚ) - 1 / 2 ≤ m * 2 ^ e ∧ m * 2 ^ e < (roundHalfUp m e : ℚ) + 1 / 2 := by
  by_cases he : 0 ≤ e
  · have hexact : (roundHalfUp m e : ℚ) = m * 2 ^ e := by
      rw [roundHalfUp, if_pos he, two_zpow_of_nonneg he, Nat.cast_mul]
    rw [hexact]
    constructor <;> linarith
  · have hw : 0 < 2 ^ (-e).toNat := Nat.two_pow_pos _
    have hk : roundHalfUp m e = (2 * m + 2 ^ (-e).toNat) / (2 * 2 ^ (-e).toNat) := if_neg he
    have hlo := Nat.div_mul_le_self (2 * m + 2 ^ (-e).toNat) (2 * 2 ^ (-e).toNat)
    have hhi := Nat.lt_div_mul_add (a := 2 * m + 2 ^ (-e).toNat) (show 0 < 2 * 2 ^ (-e).toNat by omega)
    rw [← hk] at hlo hhi
    rw [two_zpow_of_neg (by omega), ← div_eq_mul_inv]
    generalize 2 ^ (-e).toNat = w at hw hlo hhi ⊢
    have hw' : (0 : ℚ) < w := by exact_mod_cast hw
    have hlo' : (roundHalfUp m e : ℚ) * (2 * w) ≤ 2 * m + w := by exact_mod_cast hlo
    have hhi' : 2 * m + w < (roundHalfUp m e : ℚ) * (2 * w) + 2 * w := by exact_mod_cast hhi
    rw [le_div_iff₀ hw', div_lt_iff₀ hw']
    constructor <;> linarith

/-- `Enc` by what the scaled temperature stands for (R226). -/
def encVal : FpVal → Half × Bool
  | .nan => (0#16, true)
  | .inf neg => if neg then (0#16, true) else (65535#16, true)
  | .fin neg m e => encInt (roundHalfAway neg m e)

theorem encTemp_eq (f : FpFormat) (x : Fp) :
    encTemp f x = encVal (fpVal f (fmul f (fadd f x (kKelvinF f)) (fpInt f 100))) := rfl

/-- Settles O27: the magnitude rounds half up, and the sign is put back. -/
theorem encodingRoundsAndSaturates : Obligations.EncodingRoundsAndSaturates := by
  refine ⟨?_, fun k => rfl, ?_⟩
  · rintro neg m e v rfl
    obtain ⟨hlo, hhi⟩ := roundHalfUp_bounds m e
    have hv : (if neg then -1 else 1 : ℚ) * m * 2 ^ e = signOf neg * (m * 2 ^ e) := mul_assoc _ _ _
    have habs : ∀ q : ℚ, |signOf neg * q| = |q| := by intro q; cases neg <;> simp
    have hx : (0 : ℚ) ≤ m * 2 ^ e := by positivity
    rw [hv, roundHalfAway_cast, ← mul_sub, habs, habs, habs, Nat.abs_cast, abs_of_nonneg hx]
    refine ⟨abs_le.2 ⟨by linarith, by linarith⟩, fun htie => ?_⟩
    rcases eq_or_eq_neg_of_abs_eq htie with h | h <;> linarith
  · rintro f x v rfl
    refine ⟨fun h => ?_, fun h => ?_, fun h => ?_, fun neg m e h => ?_⟩ <;> rw [encTemp_eq, h] <;> rfl

end Sys2Proof.Proofs
end

section
/-! The stages of the pipeline over the bytes of the image, each coefficient at the place that R200 gives it
(spec/43_calibration.md R200, R201, R207, R214 to R219). -/

namespace Sys2Proof.Proofs

open Sys2Proof.Machine

variable (f : FpFormat) (ee : Image) (x : Nat)

/-! ### The coefficients of a pixel (R200, R201) -/

theorem aiF_default : aiF { fpFormat := f } ee x = fpInt f (ee (BitVec.ofNat 8 (0x00 + x))).toInt := by
  rw [BitVec.ofNat_add]
  rfl

theorem biF_default : biF { fpFormat := f } ee x = fpInt f (ee (BitVec.ofNat 8 (0x40 + x))).toInt := by
  rw [BitVec.ofNat_add]
  rfl

theorem daF_default : daF { fpFormat := f } ee x = fpInt f (ee (BitVec.ofNat 8 (0x80 + x))).toNat := by
  rw [BitVec.ofNat_add]
  rfl

/-! ### The stages -/

/-- Settles O25, stage by stage: with a pixel's coefficients at their bytes each stage is its chain by definition. -/
theorem pipelineStages : Obligations.PipelineStages := by
  intro f ee ptat cp ir ta x _ p i b w k kt1 kt2 d
  refine ⟨rfl, ?_⟩
  intro dta sc off g vcp vir eps alpha k2
  have hvcp : vcpOff p ee ta cp = vcp := rfl
  have hoff : virOff p ee ta ir x = fsub f (i ir.toInt) (off (b (0x00 + x)) (b (0x40 + x))) := by
    rw [virOff, aiF_default, biF_default]
    rfl
  have hvir : virTgc p ee (virOff p ee ta ir x) vcp = vir := by
    rw [hoff]
    rfl
  have hcomp : virComp p ee vir = fdiv f vir eps := rfl
  have halpha : alphaOf p ee x = alpha := by
    rw [alphaOf, daF_default]
    rfl
  rw [pixelTemp, hvcp, hvir, hcomp, halpha]
  rfl

end Sys2Proof.Proofs
end

section
/-! The host commands of the computations: COMPUTE_TA by its preconditions and the gate, COMPUTE_FRAME by its
preconditions and one emission (spec/43_calibration.md R210, R213, R227, R228, R229). -/

namespace Sys2Proof.Proofs

open Sys2Proof.Machine

variable {s t : State} {i : Instr} {q : Seq} {res : OpResult} {c : Cause} {w : Word}

/-! ### Commands of one computation -/

/-- `s` after a command whose computation has returned `res` (R213, R228). -/
def endedBy (i : Instr) (res : OpResult) (s : State) : State :=
  match res with
  | .ok => ended i .none evDone s
  | .fail c => ended i c (evDone ||| evError) s

/-- A command whose first move takes a result to its end. -/
theorem submit_endedBy (hs : s.quiet) (hq : q.isPause = false)
    (hmove : seqStep (accept (encodeWord i) q s) = deliver res .command (accept (encodeWord i) q t))
    (hi : t.inputs = []) : submit i q s = endedBy i res t := by
  have hrun : submit i q s = runSeq 63 (deliver res .command (accept (encodeWord i) q t)) :=
    (submit_idle hs.1 q).trans (runSeq_to (s := accept _ q s) rfl hs.2 hq hmove)
  rw [hrun]
  cases res with
  | ok => exact runSeq_accept_finish hi
  | fail c => exact runSeq_accept_raise hi

/-! ### COMPUTE_TA -/

theorem taResult_no_image (he : s.eeValid = false) : taResult s = .fail .eepromNotValid := by simp [taResult, he]

theorem taResult_no_ptat (he : s.eeValid = true) (hp : s.ptatValid = false) : taResult s = .fail .dataNotValid := by
  simp [taResult, he, hp]

theorem taResult_ready (he : s.eeValid = true) (hp : s.ptatValid = true) :
    taResult s = if plausible s.params.fpFormat (taFormula s.params s.ee s.ptat) then .ok
      else .fail .calibrationImplausible := by
  simp [taResult, he, hp]

/-- Without its preconditions `ComputeTa` commits nothing (R210). -/
theorem commitTa_unready (h : s.eeValid = false ∨ s.ptatValid = false) : commitTa s = s := by
  rcases h with h | h <;> simp [commitTa, h]

theorem commitTa_ready (he : s.eeValid = true) (hp : s.ptatValid = true) :
    commitTa s = { s with
      ta := taFormula s.params s.ee s.ptat
      taShown := true
      taValid := plausible s.params.fpFormat (taFormula s.params s.ee s.ptat) } := by
  simp [commitTa, he, hp]

/-- `ComputeTa` neither reads nor writes what the acceptance of a command sets. -/
theorem commitTa_accept (q : Seq) : commitTa (accept w q s) = accept w q (commitTa s) := by
  rw [commitTa, commitTa, apply_ite (accept w q)]
  rfl

theorem seqStep_computeTa (hq : s.seq = .computeTa) : seqStep s = deliver (taResult s) .command (commitTa s) := by
  simp only [seqStep, hq]
  cases taResult s <;> rfl

/-- COMPUTE_TA on an idle block ends as `ComputeTa`'s result asks, what `ComputeTa` committed kept (R213). -/
theorem exec_computeTa (hs : s.quiet) :
    exec .computeTa s = .next (endedBy .computeTa (taResult s) (commitTa s)) := by
  have hmove : seqStep (accept (encodeWord .computeTa) .computeTa s) =
      deliver (taResult s) .command (accept (encodeWord .computeTa) .computeTa (commitTa s)) := by
    rw [seqStep_computeTa rfl, commitTa_accept]
    rfl
  have hi : (commitTa s).inputs = [] := by rw [commitTa_eq]; exact hs.2
  exact congrArg _ (submit_endedBy hs rfl hmove hi)

/-- Settles O22, by the preconditions in their order, and then by the gate. -/
theorem computeTaCompletes : Obligations.ComputeTaCompletes := by
  intro s hs
  rw [exec_computeTa hs]
  refine ⟨fun he => ?_, fun he hp => ?_, ?_⟩
  · rw [taResult_no_image he, commitTa_unready (.inl he)]
    rfl
  · rw [taResult_no_ptat he hp, commitTa_unready (.inr hp)]
    rfl
  · rintro v he hp rfl
    rw [taResult_ready he hp, commitTa_ready he hp]
    constructor <;> intro hgate <;> rw [hgate] <;> rfl

/-! ### COMPUTE_FRAME -/

theorem frameResult_no_image (he : s.eeValid = false) : frameResult s = .fail .eepromNotValid := by
  simp [frameResult, he]

theorem frameResult_no_data (he : s.eeValid = true) (h : s.taValid = false ∨ s.cpValid = false ∨ s.irValid = false) :
    frameResult s = .fail .dataNotValid := by
  rcases h with h | h | h <;> simp [frameResult, he, h]

theorem frameResult_ready (he : s.eeValid = true) (ht : s.taValid = true) (hc : s.cpValid = true)
    (hr : s.irValid = true) : frameResult s = .ok := by
  simp [frameResult, he, ht, hc, hr]

theorem seqStep_computeFrame (hq : s.seq = .computeFrame) :
    seqStep s = deliver (frameResult s) .command (if frameResult s = .ok then emission s else s) := by
  simp only [seqStep, hq]
  cases frameResult s <;> rfl

/-- COMPUTE_FRAME on an idle block ends as `ComputeFrame`'s result asks, after one emission where it is `Ok` (R228). -/
theorem exec_computeFrame (hs : s.quiet) : exec .computeFrame s =
    .next (endedBy .computeFrame (frameResult s) (if frameResult s = .ok then emission s else s)) := by
  have hmove : seqStep (accept (encodeWord .computeFrame) .computeFrame s) = deliver (frameResult s) .command
      (accept (encodeWord .computeFrame) .computeFrame (if frameResult s = .ok then emission s else s)) := by
    rw [seqStep_computeFrame rfl, apply_ite (accept _ _)]
    rfl
  refine congrArg _ (submit_endedBy hs rfl hmove ?_)
  split <;> exact hs.2

theorem exec_computeFrame_fail (hs : s.quiet) (h : frameResult s = .fail c) :
    exec .computeFrame s = .next (ended .computeFrame c (evDone ||| evError) s) := by
  rw [exec_computeFrame hs, h]
  rfl

theorem exec_computeFrame_ok (hs : s.quiet) (h : frameResult s = .ok) :
    exec .computeFrame s = .next (ended .computeFrame .none evDone (emission s)) := by
  rw [exec_computeFrame hs, h]
  rfl

/-- A COMPUTE_FRAME that emitted, by the fields it changed; the emission's EVENT bits come before the end's (R229,
R296). -/
theorem ended_emission (s : State) : ended .computeFrame .none evDone (emission s) =
    ended .computeFrame .none
      (if (emission s).encClamped then evFrame ||| evWarn ||| evDone else evFrame ||| evDone)
      { s with
        mem := (emission s).mem
        frameValid := true
        encClamped := (emission s).encClamped
        frameCount := s.frameCount + 1#32
        trace := .emit (commitFrame s.frame s).frameBytes :: s.trace } := by
  have hevents : (emission s).event ||| evDone = s.event |||
      (if (emission s).encClamped then evFrame ||| evWarn ||| evDone else evFrame ||| evDone) := by
    rw [← apply_ite (· ||| evDone), ← BitVec.or_assoc]
    rfl
  rw [ended, hevents]
  rfl

/-- Settles O23: the preconditions in their order, and then one emission of the frame that the state's data make. -/
theorem computeFrameCompletes : Obligations.ComputeFrameCompletes := by
  intro s hs
  refine ⟨fun he => exec_computeFrame_fail hs (frameResult_no_image he),
    fun he h => exec_computeFrame_fail hs (frameResult_no_data he h), fun he ht hc hr => ?_⟩
  exact ⟨_, _, exec_computeFrame_ok hs (frameResult_ready he ht hc hr), ended_emission s,
    holdsFrame_commitFrame rfl rfl rfl, frameMemFrame_commitFrame s⟩

end Sys2Proof.Proofs
end

section
/-! What the frame depends on, its data and nothing else, and one whole cycle of RUN by the run from the position that
RUN reaches (spec/43_calibration.md R220, spec/44_acquisition.md R262 to R268). -/

namespace Sys2Proof.Proofs

open Sys2Proof.Machine

variable {s t t' : State} {px px' : Nat → Fp} {fr fr' : List Byte}

/-! ### The frame is a function of its data (R220) -/

/-- A pixel reads RAW_IR at indices below 64 alone. -/
theorem pixelOf_congr (p : Params) (ee : Image) (ta : Fp) (cp : Half) {ir ir' : Nat → Half}
    (h : ∀ x < 64, ir x = ir' x) : ∀ l < 64, pixelOf p ee ta cp ir l = pixelOf p ee ta cp ir' l := by
  intro l hl
  rw [pixelOf, pixelOf, h _ (rawIndex_lt hl)]

/-- Equal pixels make equal data stores and an equal clamp flag. -/
theorem holdsFrame_agree (h : HoldsFrame t px fr) (h' : HoldsFrame t' px' fr') (hp : t.params = t'.params)
    (hpx : ∀ l < 64, px l = px' l) :
    (∀ l < 64, t.temp l = t'.temp l ∧ t.enc l = t'.enc l) ∧ t.encClamped = t'.encClamped := by
  refine ⟨fun l hl => ⟨?_, ?_⟩, ?_⟩
  · rw [h.temp l hl, h'.temp l hl, hpx l hl]
  · rw [h.enc l hl, h'.enc l hl, hpx l hl, hp]
  · rw [Bool.eq_iff_iff, h.clamped, h'.clamped, hp]
    exact exists_congr fun l => and_congr_right fun hl => by rw [hpx l hl]

/-- What COMPUTE_FRAME with its data valid leaves of the frame (R228). -/
theorem holdsFrame_computeFrame (hs : s.quiet) (hv : (s.eeValid && s.taValid && s.cpValid && s.irValid) = true)
    (he : exec .computeFrame s = .next t) :
    t.params = s.params ∧ HoldsFrame t (pixelOf s.params s.ee s.ta s.cp s.ir) (commitFrame s.frame s).frameBytes := by
  simp only [Bool.and_eq_true] at hv
  obtain ⟨⟨⟨hee, hta⟩, hcp⟩, hir⟩ := hv
  rw [exec_computeFrame_ok hs (frameResult_ready hee hta hcp hir)] at he
  cases he
  exact ⟨rfl, holdsFrame_commitFrame rfl rfl rfl⟩

/-- Settles O24: both frames hold the pixels of their data, and the data agree. -/
theorem frameIsDeterministic : Obligations.FrameIsDeterministic := by
  intro s s' t t' hs hs' hv hv' hparams hta hcp hee hir ht ht'
  obtain ⟨hp, hf⟩ := holdsFrame_computeFrame hs hv ht
  obtain ⟨hp', hf'⟩ := holdsFrame_computeFrame hs' hv' ht'
  refine holdsFrame_agree hf hf' (by rw [hp, hp', hparams]) ?_
  rw [hparams, hta, hcp, show s.ee = s'.ee from funext hee]
  exact pixelOf_congr _ _ _ _ hir

/-! ### One cycle of RUN (R262) -/

/-- A step of a busy block outside a pause, with nothing due and no frame on the port, is a run from its position. -/
theorem step_run (hb : s.busy = true) (hi : s.inputs = []) (hp : s.busPort = none) (hq : s.seq.isPause = false) :
    step s = .next (runSeq (runFuel + 1) s) := by
  rw [step_nothing_due hi, advanceSeq_resume hp, resume, if_pos hb, runSeq_to hb hi hq rfl]

/-- The step at the position of the cycle's frame (R229, R267, R268). -/
theorem step_cycleFrame (hb : s.busy = true) (hi : s.inputs = []) (hp : s.busPort = none) (hq : s.seq = .cycleFrame)
    (hd : s.dataReady = true) : step s = .next (cycleEnded s) := by
  simp only [State.dataReady, hq, Bool.and_eq_true] at hd
  obtain ⟨⟨⟨hee, hta⟩, hcp⟩, hir⟩ := hd
  rw [step_run hb hi hp (by rw [hq]; rfl), runFuel, runSeq_cycleFrame hb hi hq hee hta hcp hir]

/-- Settles O44: RUN's answer is a run from the position it reaches, and a run from CYCLE is one whole cycle. -/
theorem cycleEmitsOneFrame : Obligations.CycleEmitsOneFrame := by
  refine ⟨fun s r d hreach he ha hgate => ?_, fun s hb hi hp hq hd => ?_⟩
  · obtain ⟨hb, hi, hs, n, hn, hr⟩ := reached hreach
    obtain ⟨m, rfl⟩ := Nat.exists_eq_add_of_le' (show 16 ≤ n from hn)
    exact ⟨_, hr, runSeq_cycle (s := { s with seq := .cycle }) hb hi (hs rfl).1 rfl he
      ⟨ha.check, ha.clear, ha.ptat, ha.cp, ha.ir⟩ hgate⟩
  · exact ⟨cycleEnded s, _, step_cycleFrame hb hi hp hq hd, rfl, holdsFrame_commitFrame rfl rfl rfl,
      frameMemFrame_commitFrame s⟩

end Sys2Proof.Proofs
end

section
/-! INIT on an idle block: the run of the initialization sequence from the acceptance, then the end that its warnings
and the flag ask, or the fatal step's (spec/44_acquisition.md R250 to R254). -/

namespace Sys2Proof.Proofs

open Sys2Proof.Machine

variable {s t : State} {w : Word} {i : Instr} {q : Seq} {c : Cause} {e : List Byte} {f : FatalStep} {r : RateStep}
  {v : Option (Byte × Byte)}

/-! ### The oracle's answers to the sequence -/

/-- The coming answers depend on the pending answers and the request number alone (R67). -/
theorem answerAt_congr (ha : t.answers = s.answers) (hr : t.reqCount = s.reqCount) (k n : Nat) :
    t.answerAt k n = s.answerAt k n := by
  rw [State.answerAt, State.answerAt, ha, hr]
  exact busAnswer_congr n rfl rfl

theorem rateAnswers_congr (ha : t.answers = s.answers) (hr : t.reqCount = s.reqCount) (h : r.Answers s) :
    r.Answers t := by
  cases r <;> simpa only [RateStep.Answers, answerAt_congr ha hr] using h

theorem initAnswers_congr (ha : t.answers = s.answers) (hr : t.reqCount = s.reqCount) (h : InitAnswers s e r v) :
    InitAnswers t e r v where
  eeprom := (answerAt_congr ha hr _ _).trans h.eeprom
  trim := by rw [answerAt_congr ha hr]; exact h.trim
  config := by rw [answerAt_congr ha hr]; exact h.config
  rate := rateAnswers_congr ha hr h.rate
  verify := (answerAt_congr ha hr _ _).trans h.verify

theorem failsAt_congr (ha : t.answers = s.answers) (hr : t.reqCount = s.reqCount) (h : f.FailsAt s e) :
    f.FailsAt t e := by
  cases f <;> simpa only [FatalStep.FailsAt, answerAt_congr ha hr] using h

/-- The memory that the image read of an answered sequence leaves (R152). -/
theorem holdsImage_of_answers (h : InitAnswers s e r v) : HoldsImage s.mem e (s.mem.writeBlock eeBase e) :=
  holdsImage_writeBlock (busAnswer_length h.eeprom)

/-! ### The warnings -/

theorem initWarned_of_ok (h : (r.ok && v.isSome) = true) : initWarned r v s = s := by simp [initWarned, h]

theorem initWarned_of_failed (h : (r.ok && v.isSome) = false) : initWarned r v s = warn .busTransactionFailed s := by
  simp [initWarned, warn, h]

/-! ### The end of INIT -/

/-- The last moves of INIT: a flag observed set is reported, and the command ends normally (R250). -/
theorem runSeq_initDone_init {n : Nat} (hb : s.busy = true) (hi : s.inputs = []) (hq : s.seq = .initDone .init) :
    runSeq (n + 3) s = commandEnd .normal (if s.porObs then reportPor s else s) := by
  cases hp : s.porObs
  · have hmove : seqStep s = { s with seq := .finish } := by simp [seqStep, hq, afterInit, hp]
    rw [runSeq_to hb hi (by rw [hq]; rfl) hmove]
    exact runSeq_finish (s := { s with seq := .finish }) hb hi rfl
  · have hmove : seqStep s = { s with seq := .porSeen } := by simp [seqStep, hq, afterInit, hp]
    rw [runSeq_to hb hi (by rw [hq]; rfl) hmove, runSeq_to (s := { s with seq := .porSeen }) hb hi rfl rfl]
    exact runSeq_finish (s := { reportPor { s with seq := .porSeen } with seq := .finish }) hb hi rfl

/-- A normal end writes the cause and adds DONE to the EVENT bits that the accepted command itself has set (R296). -/
theorem commandEnd_accept {c' : Cause} (ev : BitVec 5) :
    commandEnd .normal { accept (encodeWord i) q s with lastCause := c', ownCause := c, event := s.event ||| ev } =
      ended i c (ev ||| evDone) s := by
  rw [ended, ← BitVec.or_assoc]
  rfl

/-- INIT whose sequence returns `Ok`: the warnings, the flag's report, the normal end (R250). -/
theorem exec_init_done (hq : s.quiet) (h : InitAnswers s e r v) :
    exec .init s = .next (commandEnd .normal ((if flagSeen s.params v then reportPor else id)
      (initWarned r v (accept (encodeWord .init) (.initDone .init)
        (initDone s e r v (s.mem.writeBlock eeBase e)))))) := by
  obtain ⟨k, hk, hrun⟩ := runSeq_initDone (i := .init)
    (s := accept (encodeWord .init) (.openSession (.initSeq .init)) s) rfl hq.2 rfl
    (initAnswers_congr (s := s) rfl rfl h)
  refine congrArg _ ((submit_idle hq.1 _).trans ?_)
  rw [show runFuel = 61 - k + 3 + k by simp [runFuel]; omega, hrun]
  refine (runSeq_initDone_init (by rfl) (by exact hq.2) rfl).trans ?_
  show commandEnd .normal (if flagSeen s.params v then _ else _) = _
  split <;> rfl

/-- INIT with a sequence that warned of nothing, by the flag (R250). -/
theorem exec_init_clean (hq : s.quiet) (h : InitAnswers s e r v) (hok : (r.ok && v.isSome) = true) :
    exec .init s = .next (ended .init (if flagSeen s.params v then .powerOnReset else .none)
      (if flagSeen s.params v then evDone ||| evPor else evDone)
      (initDone s e r v (s.mem.writeBlock eeBase e))) := by
  rw [exec_init_done hq h, initWarned_of_ok hok]
  cases flagSeen s.params v
  · rfl
  · exact congrArg _ (commandEnd_accept evPor)

/-- INIT with a sequence that warned, by the flag (R250, R253, R254). -/
theorem exec_init_warned (hq : s.quiet) (h : InitAnswers s e r v) (hfail : (r.ok && v.isSome) = false) :
    exec .init s = .next (ended .init (if flagSeen s.params v then .powerOnReset else .busTransactionFailed)
      (if flagSeen s.params v then evDone ||| evWarn ||| evPor else evDone ||| evWarn)
      (initDone s e r v (s.mem.writeBlock eeBase e))) := by
  rw [exec_init_done hq h, initWarned_of_failed hfail]
  cases flagSeen s.params v
  · exact congrArg _ (commandEnd_accept evWarn)
  · refine congrArg _ (Eq.trans ?_ (commandEnd_accept (q := .initDone .init) (c' := .powerOnReset) (evWarn ||| evPor)))
    rw [← BitVec.or_assoc]
    rfl

/-- Settles O33: nothing fails, so nothing warns, and the flag is the one that the verification read shows. -/
theorem initCompletes : Obligations.InitCompletes := by
  intro s e l m vl vm hq h
  refine ⟨_, holdsImage_of_answers h, (exec_init_clean hq h rfl).trans ?_⟩
  simp [flagSeen]

/-- Settles O34: the run up to the fatal step, whose cause INIT raises. -/
theorem initFailsAsAWhole : Obligations.InitFailsAsAWhole := by
  intro s e f hq hf
  obtain ⟨k, hk, n, hn, hrun⟩ := runSeq_initFailed (i := .init) (e := e) (f := f)
    (s := accept (encodeWord .init) (.openSession (.initSeq .init)) s) rfl hq.2 rfl (failsAt_congr (s := s) rfl rfl hf)
  refine ⟨n, hn, congrArg _ ((submit_idle hq.1 _).trans ?_)⟩
  rw [show runFuel = 63 - k + 1 + k by simp [runFuel]; omega, hrun]
  refine (runSeq_raise (c := .busTransactionFailed) (by rfl) (by exact hq.2) rfl).trans ?_
  cases f <;> rfl

/-- Settles O35: a failed rate step or verification warns, which `end` does not turn into an error. -/
theorem initSurvivesRateAndVerifyFailure : Obligations.InitSurvivesRateAndVerifyFailure := by
  intro s e r v hq h hfail
  have hwarned : (r.ok && v.isSome) = false := by
    rcases hfail with hr | rfl
    · rw [hr, Bool.false_and]
    · rw [Option.isSome_none, Bool.and_false]
  exact ⟨_, holdsImage_of_answers h, exec_init_warned hq h hwarned⟩

end Sys2Proof.Proofs
end

section
/-! How the phases of RUN end: the two recoveries below and at the retry limit, the IR read's failure, and a fatal step
of an initialization sequence (spec/44_acquisition.md R252, R260, R266, R269, R270). -/

namespace Sys2Proof.Proofs

open Sys2Proof.Machine

variable {s t u : State} {q : Seq} {c : Cause} {r : Answered} {e : List Byte} {f : FatalStep} {w : WaitKind} {p : Pause}

/-! ### The shutdown routine of RUN -/

/-- The shutdown routine with a session open, for a cause that is an error (R272, R296). -/
theorem shutdown_of_open (ho : s.sessionOpen = true) (hc : c ≠ .stopped) : shutdown c s = { s with
    loopState := .halted
    lastCause := c
    ownCause := .none
    busy := false
    event := s.event ||| (evDone ||| evError)
    termReq := false
    sessionOpen := false
    busClk := none
    busPort := none
    trace := .busEnd :: s.trace
    curOp := none
    seq := .idle } := by
  simp [shutdown_eq, ho, CommandEnd.events, hc]

theorem shutdown_seq (c : Cause) (s : State) (q : Seq) : shutdown c { s with seq := q } = shutdown c s := by
  rw [shutdown_eq, shutdown_eq]

/-- RUN ends where some moves lead from the position it reaches to the shutdown routine. -/
theorem eq_shutdown_of_reached {k : Nat} (h : Reached q u r) (hk : k + 1 ≤ movesLeft q) (hb : t.busy = true)
    (hi : t.inputs = []) (hm : ∀ n, runSeq (n + k) { u with seq := q } = runSeq n { t with seq := .shutdown c }) :
    r = .next (shutdown c t) := by
  refine h.eq hk fun n => ?_
  rw [← Nat.add_assoc, Nat.add_right_comm, hm, ← shutdown_seq c t (.shutdown c)]
  exact runSeq_shutdown (s := { t with seq := .shutdown c }) hb hi rfl

/-! ### The recoveries (R270) -/

/-- Below the retry limit, or with none, a recovery is counted and the wait begins. -/
theorem retryThenWait_below (h : ∀ n, s.params.retryLimit = some n → s.retryCnt < n) :
    retryThenWait c w p s = { s.beginWait w with retryCnt := s.retryCnt + 1, seq := .pause p } := by
  refine if_neg fun hany => ?_
  obtain ⟨n, hn, hle⟩ := (Option.any_eq_true _ _).1 hany
  exact absurd (h n hn) (Nat.not_lt.2 (of_decide_eq_true hle))

theorem retryThenWait_atLimit {n : Nat} (hn : s.params.retryLimit = some n) (hle : n ≤ s.retryCnt) :
    retryThenWait c w p s = { s with seq := .shutdown c } :=
  if_pos (by rw [hn]; exact decide_eq_true hle)

/-- `u` after a recovery's report: LOOP_STATE, the cause and its EVENT bits (R260, R269). -/
def reported (l : LoopState) (c : Cause) (ev : BitVec 5) (u : State) : State :=
  { u with loopState := l, lastCause := c, ownCause := c, event := u.event ||| ev }

/-- RUN recovers from a position whose move reports the cause and counts the retry (R260, R269, R270). -/
theorem recovers_of_reached {l : LoopState} {ev : BitVec 5} (h : Reached q u r) (hk : 2 ≤ movesLeft q)
    (hq : q.isPause = false) (hs : q.opensSession = false)
    (hm : seqStep { u with seq := q } = retryThenWait c w p { reported l c ev u with seq := q }) :
    Recovers c l ev p (.wait w (waitMin u.params w)) u r := by
  obtain ⟨ho, hp⟩ := h.session hs
  have move : ∀ n t, retryThenWait c w p { reported l c ev u with seq := q } = t →
      runSeq (n + 1) { u with seq := q } = runSeq n t := fun _ _ ht => runSeq_to h.busy h.inputs hq (hm.trans ht)
  refine ⟨fun hbelow => h.eq hk fun n => ?_, fun n hn hle hc => ?_⟩
  · rw [move _ _ (retryThenWait_below hbelow)]
    exact runSeq_atRest (by simp [State.atRest, Seq.isPause])
  · rw [eq_shutdown_of_reached (t := reported l c ev u) h hk h.busy h.inputs fun _ =>
      move _ _ (retryThenWait_atLimit hn hle), shutdown_of_open (s := reported l c ev u) ho hc]
    simp only [reported, hp, BitVec.or_assoc]

/-- Settles O41: FAULTED_PHASE reports the flag in the move that counts the recovery. -/
theorem brownOutRecovery : Obligations.BrownOutRecovery := fun _ _ h =>
  recovers_of_reached (q := .faultedPhase) (w := .por) (reached h) (by decide) rfl rfl rfl

/-- Settles O42: AMBIENT_RETRY warns in the move that counts the recovery. -/
theorem ambientRetry : Obligations.AmbientRetry := fun c _ _ h =>
  recovers_of_reached (q := .ambientRetry c) (w := .amb) (reached h) (Nat.le_refl 2) rfl rfl rfl

/-! ### The IR read -/

/-- Settles O40: the failed read's result goes to the shutdown routine, which no retry and no checkpoint precedes. -/
theorem irFailureEndsRun : Obligations.IrFailureEndsRun := by
  intro u r hreach ha
  have h := reached hreach
  obtain ⟨ho, -⟩ := h.session rfl
  have hend : r = .next (shutdown .frameReadFailed (answered .irRead none u)) :=
    eq_shutdown_of_reached (k := 3) h (Nat.le_succ 4) h.busy h.inputs fun _ =>
      runSeq_op_to (s := { u with seq := .op .irRead .cycleIr }) .irRead .cycleIr none h.busy h.inputs ho rfl ha rfl
  rw [hend, shutdown_of_open (s := answered .irRead none u) ho (by decide)]
  rfl

/-! ### A fatal step of the initialization sequence -/

/-- A fatal step fails after RUN has called the initialization sequence, in either phase (R252, R257, R269). -/
theorem shutdown_of_failsAt {i : InitCaller} (h : Reached (.openSession (.initSeq i)) u r) (hi : i ≠ .init)
    (hf : f.FailsAt u e) :
    ∃ n, f.Mem u.mem e n ∧ r = .next (shutdown .busTransactionFailed (initFailed u e f n)) := by
  obtain ⟨k, hk, n, hn, hrun⟩ := runSeq_initFailed (s := { u with seq := .openSession (.initSeq i) }) (i := i)
    h.busy h.inputs rfl (failsAt_congr (s := u) rfl rfl hf)
  have hfail : initFail .busTransactionFailed i = .shutdown .busTransactionFailed := by
    cases i
    case init => exact absurd rfl hi
    all_goals rfl
  have hmoves : k + 1 ≤ movesLeft (.openSession (.initSeq i)) := Nat.succ_le_succ (hk.trans (by decide : 14 ≤ 45))
  refine ⟨n, hn, eq_shutdown_of_reached h hmoves h.busy h.inputs fun m => ?_⟩
  rw [hrun, hfail]
  cases f <;> rfl

/-- Settles O37: RUN, and each pause that initializes, reaches the sequence, whose failure is the shutdown routine's. -/
theorem runShutsDownOnInitFailure : Obligations.RunShutsDownOnInitFailure := by
  refine fun s e f hf => ⟨fun hq => ?_, fun p hp hcycle ht => ?_⟩
  · obtain ⟨n, hn, hr⟩ := shutdown_of_failsAt (reached (.initSeq (.run hq))) nofun (failsAt_congr (s := s) rfl rfl hf)
    refine ⟨n, hn, hr.trans ?_⟩
    rw [shutdown_of_open (s := initFailed _ e f n) rfl (by decide)]
    cases f <;> rfl
  · have hphase : ∃ i u, i ≠ .init ∧ Reached (.openSession (.initSeq i)) u (step s) ∧
        u = { s with loopState := .initializing } := by
      cases p
      case amb => exact ⟨.initPhase, _, nofun, reached (.initSeq (.ambEnds hp ht)), rfl⟩
      case por => exact ⟨.faultedPhase, _, nofun, reached (.porEnds hp ht), rfl⟩
      case cycle => exact absurd rfl hcycle
    obtain ⟨i, _, hi, hreach, rfl⟩ := hphase
    obtain ⟨n, hn, hr⟩ := shutdown_of_failsAt hreach hi (failsAt_congr (s := s) rfl rfl hf)
    refine ⟨n, hn, hr.trans ?_⟩
    rw [shutdown_of_open (s := initFailed _ e f n) rfl (by decide)]
    simp only [initFailed, ht]
    cases f <;> rfl

end Sys2Proof.Proofs
end

section
/-! RUN from a call of the initialization sequence to its next pause, the transactions answered: after the ambient step
or straight from the recovery into one cycle; and the ends of the pauses (spec/44_acquisition.md R256 to R271). -/

namespace Sys2Proof.Proofs

open Sys2Proof.Machine

variable {s t u : State} {r : Answered} {e : List Byte} {l m vl vm p0 p1 : Byte} {d : CycleData}
  {p : Pause}

/-! ### What a cycle leaves -/

/-- A cycle overwrites LOOP_STATE and RETRY_CNT, so what it leaves does not depend on them (R262, R268). -/
theorem cycleLeaves_congr {a : LoopState} {k : Nat} (h : CycleLeaves { s with loopState := a, retryCnt := k } d t) :
    CycleLeaves s d t := h

theorem cycleAnswers_congr {k : Nat} (ha : t.answers = s.answers) (hr : t.reqCount = s.reqCount)
    (hp : t.params = s.params) (h : CycleAnswers s k d) : CycleAnswers t k d := by
  rw [← Nat.zero_add k] at h
  exact h.later ha hr hp

/-! ### After the initialization sequence -/

/-- EE after an answered initialization sequence is the image it read. -/
theorem ee_initRan {q : RateStep} {v : Option (Byte × Byte)} (h : InitAnswers s e q v) :
    (initRan s e q v).ee = imageOf e :=
  ee_writeBlock (busAnswer_length h.eeprom) rfl

/-- The ambient step of INIT_PHASE after an initialization sequence that found the flag clear, and the cycle after it
(R257, R259, R262). -/
theorem cycle_of_initPhase (h : Reaches (.openSession (.initSeq .initPhase)) u r)
    (ha : InitAnswers u e (.done l m) (some (vl, vm))) (hv : vm.getLsbD 2 ≠ u.params.porActiveLevel)
    (h6 : u.answerAt 6 2 = some [p0, p1]) (hd : CycleAnswers u 7 d)
    (hp : plausible u.params.fpFormat (taFormula u.params (imageOf e) (p1 ++ p0)) = true)
    (hpd : plausible u.params.fpFormat (taFormula u.params (imageOf e) d.ptat) = true) :
    ∃ t, r = .next t ∧ CycleLeaves (ambientDone (initRan u e (.done l m) (some (vl, vm))) p0 p1) d t := by
  have hee := ee_initRan ha
  have hclear : (initRan u e (.done l m) (some (vl, vm))).porObs = false := beq_eq_false_iff_ne.2 hv
  have hambient : AmbientPasses (initRan u e (.done l m) (some (vl, vm))) p0 p1 :=
    ⟨busAnswer_of_answerAt h6 rfl rfl, by rw [hee]; exact hp⟩
  have hcycle := Reaches.initPasses (.initAmbient (.initDone h ha) hclear) rfl hambient
  refine cycleEmitsOneFrame.1 _ _ d hcycle rfl (hd.later (j := 7) List.tail_drop rfl rfl) ?_
  show plausible _ (taFormula _ (initRan u e (.done l m) (some (vl, vm))).ee _) = true
  rw [hee]
  exact hpd

/-- Settles O36: INIT_PHASE's sequence and ambient step lead to CYCLE, which overwrites what RUN's acceptance set. -/
theorem runReachesFirstPause : Obligations.RunReachesFirstPause := by
  intro s u r e l m vl vm p0 p1 d hstart ha hv h6 hd hp hpd
  have hreach : ∃ a k, Reaches (.openSession (.initSeq .initPhase)) { u with loopState := a, retryCnt := k } r ∧
      u.answers = s.answers ∧ u.reqCount = s.reqCount ∧ u.params = s.params ∧ u.mem = s.mem := by
    rcases hstart with ⟨hq, rfl, rfl⟩ | ⟨hpause, ht, rfl, rfl⟩
    · exact ⟨.initializing, 0, .initSeq (.run hq), rfl, rfl, rfl, rfl⟩
    · exact ⟨.initializing, u.retryCnt, .initSeq (.ambEnds hpause ht), rfl, rfl, rfl, rfl⟩
  obtain ⟨a, k, hreach, hans, hreq, hpar, hmem⟩ := hreach
  rw [← hpar] at hv hp hpd
  obtain ⟨t, hr, ht⟩ := cycle_of_initPhase hreach (initAnswers_congr hans hreq ha) hv
    ((answerAt_congr hans hreq 6 2).trans h6) (cycleAnswers_congr hans hreq hpar hd) hp hpd
  exact ⟨_, t, holdsImage_of_answers ha, hr, hmem ▸ cycleLeaves_congr ht⟩

/-! ### The ends of the pauses (R271) -/

/-- A termination request at the end of a pause (R271, R272). -/
theorem step_pause_requested (hb : s.busy = true) (hi : s.inputs = []) (hp : s.busPort = none) (hq : s.seq = .pause p)
    (ht : s.termReq = true) : step s = .next (shutdown .stopped s) := by
  have hmove : seqStep s = { s with seq := .shutdown .stopped } := by simp [seqStep, hq, afterPause, ht]
  rw [step_nothing_due hi, advanceSeq_resume hp, resume, if_pos hb, hmove,
    ← shutdown_seq .stopped s (.shutdown .stopped)]
  exact congrArg _ (runSeq_shutdown (s := { s with seq := .shutdown .stopped }) hb hi rfl)

/-- A granted move at the end of a pause, another outside event being due after it. -/
theorem step_pause_granted {x : Input} {rest : List Input} (hb : s.busy = true) (hi : s.inputs = .advance :: x :: rest)
    (hx : x ≠ .advance) (hp : s.busPort = none) (hq : s.seq = .pause p)
    (hu : afterPause p { s with inputs := x :: rest } = u) (hrest : u.inputs = x :: rest) : step s = .next u := by
  have hmove : seqStep { s with inputs := x :: rest } = u := by
    simp only [seqStep, hq]
    exact hu
  rw [step_advance hi, advanceSeq_resume (s := { s with inputs := x :: rest }) hp, resume, if_pos hb, hmove,
    runSeq_due hx hrest]

/-- The recovery from a brown-out whose sequence finds the flag clear goes on with one cycle (R269). -/
theorem cycle_of_recovery (h : Reaches (.openSession (.initSeq .faultedPhase)) u r)
    (ha : InitAnswers u e (.done l m) (some (vl, vm))) (hv : vm.getLsbD 2 ≠ u.params.porActiveLevel)
    (hd : CycleAnswers u 6 d) (hpd : plausible u.params.fpFormat (taFormula u.params (imageOf e) d.ptat) = true) :
    ∃ t, r = .next t ∧ CycleLeaves (initRan u e (.done l m) (some (vl, vm))) d t := by
  have hclear : (initRan u e (.done l m) (some (vl, vm))).porObs = false := beq_eq_false_iff_ne.2 hv
  have hgate : plausible u.params.fpFormat
      (taFormula u.params (initRan u e (.done l m) (some (vl, vm))).ee d.ptat) = true := by
    rw [ee_initRan ha]
    exact hpd
  obtain ⟨t, hr, ht⟩ := cycleEmitsOneFrame.1 _ _ d (.initRecovered (.initDone h ha) hclear) rfl
    (hd.later (j := 6) rfl rfl rfl) hgate
  exact ⟨t, hr, cycleLeaves_congr (a := .ready) (k := u.retryCnt) ht⟩

/-- Settles O43: the checkpoint at the end of a pause, the phase after each pause, and the brown-out recovery by the
flag that its sequence finds. -/
theorem pauseEnd : Obligations.PauseEnd := by
  refine ⟨fun s p hb hi hp hq ht => ?_, fun s x rest hb hi hx hp ht => ⟨fun hq => ?_, fun hq => ?_, fun hq => ?_⟩,
    fun s e l m vl vm hpause ht ha => ?_⟩
  · rw [step_pause_requested hb hi hp hq ht, shutdown_eq]
    simp only [hp]
    rfl
  · exact step_pause_granted hb hi hx hp hq (by simp [afterPause, ht]) rfl
  · exact step_pause_granted hb hi hx hp hq (by simp [afterPause, ht]) rfl
  · exact step_pause_granted hb hi hx hp hq (by simp [afterPause, ht]) rfl
  · have hreach := Reaches.porEnds hpause ht
    have ha' := initAnswers_congr (s := s) (t := { s with loopState := .initializing }) rfl rfl ha
    refine ⟨fun d hv hd hpd => ?_, fun hv hlimit => ?_⟩
    · obtain ⟨t, hr, hleaves⟩ := cycle_of_recovery hreach ha' hv (cycleAnswers_congr (s := s) rfl rfl rfl hd) hpd
      exact ⟨_, t, holdsImage_of_answers ha, hr,
        cycleLeaves_congr (a := .initializing) (k := s.retryCnt) hleaves⟩
    · have hset : (initRan { s with loopState := .initializing } e (.done l m) (some (vl, vm))).porObs = true :=
        beq_iff_eq.2 hv
      have hrecovers := brownOutRecovery _ _ (.initFaulted (.initDone hreach ha') nofun hset)
      refine ⟨_, holdsImage_of_answers ha, (hrecovers.1 fun n hn => ?_).trans rfl⟩
      exact absurd (hlimit.symm.trans hn) nofun

end Sys2Proof.Proofs
end

section
/-! Every command comes to rest: each move outside a pause comes nearer to the command's end or to RUN's next pause, and
no position is more than 47 moves away (spec/44_acquisition.md R256, R271, R276; log 3). -/

namespace Sys2Proof.Proofs

open Sys2Proof.Machine

variable {s : State} {q : Seq}

/-! ### How far a position is from rest -/

/-- The most moves from where an operation's result is taken to the command's end or a pause. -/
def movesAfter : Cont → Nat
  | .command => 1
  | .checkPor => 2
  | .rateRead _ _ => 29
  | .rateWrite _ _ => 26
  | .initEeprom _ => 38
  | .initTrim _ => 35
  | .initConfig _ => 32
  | .initVerify _ => 22
  | .cyclePor => 12
  | .ambientPtat .initPhase => 17
  | .ambientPtat .cycle => 9
  | .cycleCp => 5
  | .cycleIr => 2

/-- The most moves from a position to the command's end or a pause: 0 there, along the longest way elsewhere. -/
def movesToRest : Seq → Nat
  | .idle => 0
  | .pause _ => 0
  | .finish => 1
  | .raiseCause _ => 1
  | .shutdown _ => 1
  | .cycleWait => 1
  | .closeSession => 2
  | .porSeen => 2
  | .computeTa => 2
  | .computeFrame => 2
  | .cycleFrame => 2
  | .faultedPhase => 2
  | .ambientRetry _ => 2
  | .ambientTa .cycle => 9
  | .ambientTa .initPhase => 17
  | .cycle => 16
  | .initDone _ => 21
  | .warning _ .faultedPhase => 3
  | .warning _ (.initDone _) => 22
  | .warning _ (.verify _) => 26
  | .rateCommit _ _ => 26
  | .bus _ k => movesAfter k + 1
  | .request _ k => movesAfter k + 2
  | .op _ k => movesAfter k + 3
  | .settling _ => 42
  | .openSettle _ => 43
  | .openClock _ => 44
  | .openBegin _ => 45
  | .openSession _ => 46
  | .initPhase => 47

theorem movesAfter_le (k : Cont) : movesAfter k ≤ 38 := by
  unfold movesAfter
  split <;> decide

theorem movesToRest_le (q : Seq) : movesToRest q ≤ 47 := by
  cases q
  case op o k | request o k | bus o k => exact (Nat.add_le_add_right (movesAfter_le k) _).trans (by decide)
  case warning c n => cases n <;> simp [movesToRest]
  case ambientTa a => cases a <;> decide
  all_goals simp [movesToRest]

/-- Only the end of a command and the pauses are at rest. -/
theorem idle_or_pause_of_movesToRest (h : movesToRest q = 0) : q = .idle ∨ q.isPause = true := by
  cases q
  case idle => exact .inl rfl
  case pause => exact .inr rfl
  case warning c n => cases n <;> cases h
  case ambientTa a => cases a <;> cases h
  all_goals cases h

/-! ### Every move comes nearer -/

theorem movesToRest_initFail (c : Cause) (i : InitCaller) : movesToRest (initFail c i) = 1 := by cases i <;> rfl

theorem movesToRest_rateFail_le (c : Cause) (k : Caller) : movesToRest (rateFail c k) ≤ 26 := by
  cases k <;> simp [rateFail, movesToRest]

/-- Where a result takes the sequencer is no farther than the place that takes it says. -/
theorem movesToRest_deliver_le (res : OpResult) (k : Cont) (s : State) :
    movesToRest (deliver res k s).seq ≤ movesAfter k := by
  cases k <;> cases res <;> simp only [deliver]
  case rateRead.fail c => exact (movesToRest_rateFail_le c _).trans (Nat.le_add_right 26 3)
  case rateWrite.fail c => exact movesToRest_rateFail_le c _
  case initEeprom.fail | initTrim.fail | initConfig.fail =>
    rw [movesToRest_initFail]
    exact Nat.le_add_left 1 _
  case checkPor.ok => split <;> decide
  case cyclePor.ok => split <;> decide
  case ambientPtat.ok a => cases a <;> exact Nat.le_refl _
  case ambientPtat.fail a c => cases a <;> simp [movesToRest, movesAfter]
  all_goals simp [movesToRest, movesAfter]

theorem movesToRest_retryThenWait (c : Cause) (w : WaitKind) (p : Pause) (s : State) :
    movesToRest (retryThenWait c w p s).seq < 2 := by
  unfold retryThenWait
  split <;> simp [movesToRest]

/-- A move outside a pause of a command that executes comes nearer to rest. -/
theorem movesToRest_seqStep (hidle : s.seq ≠ .idle) (hpause : s.seq.isPause = false) :
    movesToRest (seqStep s).seq < movesToRest s.seq := by
  cases hq : s.seq <;> rw [hq] at hidle hpause <;> simp only [seqStep, hq]
  case idle => exact absurd rfl hidle
  case pause => cases hpause
  case shutdown c => exact Nat.zero_lt_one
  case openSession k => split <;> exact Nat.lt_succ_self 45
  case settling k => cases k <;> simp [movesToRest, afterOpen, movesAfter]
  case op o k =>
    unfold beginOp
    split
    · exact Nat.lt_succ_self _
    · exact (movesToRest_deliver_le _ k s).trans_lt (Nat.lt_add_of_pos_right (by decide))
  case request o k => exact Nat.lt_succ_self _
  case bus o k =>
    rw [transact_bus hq]
    exact Nat.lt_succ_of_le (movesToRest_deliver_le _ k _)
  case rateCommit code k => cases k <;> simp [movesToRest, afterRate, movesAfter]
  case warning c n => cases n <;> exact Nat.lt_succ_self _
  case initDone i =>
    cases i <;> simp only [afterInit] <;> split <;> simp [movesToRest, movesAfter]
  case computeTa => split <;> exact Nat.lt_succ_self 1
  case ambientTa a => split <;> cases a <;> simp [movesToRest, afterAmbient, movesAfter]
  case ambientRetry c => exact movesToRest_retryThenWait _ _ _ _
  case faultedPhase => exact movesToRest_retryThenWait _ _ _ _
  case computeFrame => split <;> exact Nat.lt_succ_self 1
  case cycleFrame => split <;> exact Nat.lt_succ_self 1
  all_goals simp [movesToRest, movesAfter]

/-! ### Rest -/

theorem transaction_inputs (o : BusOp) (s : State) : (transaction o s).inputs = s.inputs := by
  unfold transaction
  cases o <;> cases s.busAnswer _ <;> rfl

theorem retryThenWait_inputs (c : Cause) (w : WaitKind) (p : Pause) (s : State) :
    (retryThenWait c w p s).inputs = s.inputs := by
  unfold retryThenWait
  split <;> rfl

/-- No move consumes an outside event. -/
theorem seqStep_inputs (s : State) : (seqStep s).inputs = s.inputs := by
  cases hq : s.seq <;> simp only [seqStep, hq]
  case shutdown c => rw [shutdown_eq]
  case closeSession => exact endSession_inputs s
  case openSession k => split <;> rfl
  case op o k =>
    unfold beginOp
    split
    · rfl
    · rw [deliver_eq]
  case bus o k =>
    rw [transact_bus hq, deliver_eq]
    exact transaction_inputs o s
  case warning c n => cases n <;> rfl
  case initDone i =>
    cases i <;> simp only [afterInit]
    split <;> rfl
  case computeTa => split <;> rw [commitTa_eq]
  case ambientTa a => split <;> rw [commitTa_eq]
  case ambientRetry c => exact retryThenWait_inputs _ _ _ _
  case faultedPhase => exact retryThenWait_inputs _ _ _ _
  case computeFrame => split <;> rfl
  case cycleFrame => split <;> rfl
  case pause p =>
    unfold afterPause
    split
    · rfl
    · cases p <;> rfl
  all_goals rfl

/-- A sound state with no outside event due is at rest after as many moves as its position needs. -/
theorem atRest_runSeq {n : Nat} (hs : s.Sound) (hi : s.inputs = []) (hn : movesToRest s.seq ≤ n) :
    (runSeq n s).atRest = true := by
  induction n generalizing s with
  | zero =>
    rcases idle_or_pause_of_movesToRest (Nat.le_zero.1 hn) with hq | hq
    · simp [State.atRest, hs.busy, hq]
    · simp [State.atRest, hq]
  | succ n ih =>
    cases hr : s.atRest
    · obtain ⟨hb, hp⟩ : s.busy = true ∧ s.seq.isPause = false := by simpa [State.atRest] using hr
      have hidle : s.seq ≠ .idle := by simpa [hb] using hs.busy
      rw [runSeq_move hr hi]
      exact ih (sound_seqStep hs hb) ((seqStep_inputs s).trans hi)
        (Nat.le_of_lt_succ ((movesToRest_seqStep hidle hp).trans_le hn))
    · rw [runSeq_atRest hr, hr]

/-- Settles O60: a busy block's run is longer than any position needs, and an idle block stays idle. -/
theorem everyCommandComesToRest : Obligations.EveryCommandComesToRest := by
  intro s t hs hi hp hstep
  rw [step_nothing_due hi, advanceSeq_resume hp] at hstep
  cases hstep
  have hrest : (resume s).atRest = true := by
    unfold resume
    split
    · next hb =>
      exact atRest_runSeq (sound_seqStep hs hb) ((seqStep_inputs s).trans hi) ((movesToRest_le _).trans (by decide))
    · next hb =>
      split
      · rfl
      · simp [State.atRest, hb]
  refine ⟨hrest, fun hb => ?_⟩
  have hpause : (resume s).seq.isPause = true := by simpa [State.atRest, hb] using hrest
  cases hq : (resume s).seq <;> rw [hq] at hpause
  case pause p => exact ⟨p, rfl⟩
  all_goals cases hpause

end Sys2Proof.Proofs
end

section
/-! NOP by its acceptance and its one move, a rejected word between them or none, and STOP by the shutdown routine
(spec/44_acquisition.md R272, R273, R274). -/

namespace Sys2Proof.Proofs

open Sys2Proof.Machine

variable {s : State} {w : Word} {rest : List Input}

/-! ### NOP -/

/-- A host write to a busy block's CMD of a word that is not STOP's opcode is rejected (R90, R297). -/
theorem step_busy_word (hb : s.busy = true) (hi : s.inputs = .hostWrite 4 0x000#12 w :: rest)
    (hop : opField w ≠ 0x10#8) : step s = .next (rejectWord .commandWhileBusy { s with inputs := rest }) := by
  rw [step_hostWrite_cmd hi, submitWord_rejected (s := { s with inputs := rest }) (.inr ⟨hb, hop⟩), rejectIllegal,
    if_pos ⟨hb, hop⟩]

/-- Settles O11: one move ends the command, wherever between its acceptance and that move a word was rejected. -/
theorem nopCompletes : Obligations.NopCompletes := by
  refine fun s => ⟨fun hq => congrArg _ ((submit_idle hq.1 _).trans (runSeq_accept_finish hq.2)),
    fun hb => exec_busy rfl hb, fun w hb hi hp hop => ?_⟩
  have haccept : exec .nop s = .next (accept (encodeWord .nop) .finish s) :=
    congrArg _ ((submit_idle hb _).trans (runSeq_due (e := .hostWrite 4 0x000#12 w) (rest := []) nofun hi))
  have hreject := step_busy_word (s := accept (encodeWord .nop) .finish s) (w := w) (rest := []) rfl hi hop
  have hend := step_finish
    (s := rejectWord .commandWhileBusy { accept (encodeWord .nop) .finish s with inputs := [] }) rfl rfl hp rfl
  refine ⟨_, _, haccept, hreject, rfl, rfl, hend.trans ?_⟩
  rw [ended, BitVec.or_comm evDone, ← BitVec.or_assoc]
  rfl

/-! ### STOP -/

/-- Settles O38: the branch of STOP on BUSY, and the shutdown routine without an error for the cause STOPPED. -/
theorem stopCompletes : Obligations.StopCompletes := by
  refine fun s => ⟨fun hb => congrArg _ (if_pos hb), fun hb => ?_⟩
  have hstop : exec .stop s = .next (shutdown .stopped { s with cmd := encodeWord .stop }) :=
    congrArg _ (if_neg (by simp [hb]))
  rw [hstop, shutdown_eq]
  rfl

end Sys2Proof.Proofs
end

section
/-! The state after reset: the values that the host and the sequencer find there, and the invariants of every step, which
begin there (spec/10_state.md R47, spec/70_reset_and_hazards.md R331). -/

namespace Sys2Proof.Proofs

open Sys2Proof.Machine

/-! ### The values of reset -/

/-- With no event pending the interrupt is low, whatever is enabled (R300). -/
theorem irq_of_no_event {s : State} (h : s.event = 0#5) : s.irq = false := by
  rw [State.irq, h, BitVec.zero_and]
  rfl

/-- Settles O52: CONFIG's reserved bits read 0 in every state, so in this one; the other values are those stored. -/
theorem resetState : Obligations.ResetState :=
  ⟨rfl, rfl, rfl, rfl, irq_of_no_event rfl, rfl, rfl, rfl, rfl, rfl, rfl, fun d => (configWord_fields State.reset d).1⟩

/-! ### The invariants begin at reset -/

/-- No byte is listed yet. -/
theorem memCanonical_reset : MemCanonical State.reset := ⟨⟨.nil, nofun⟩, nofun⟩

/-- No session is open and no bus event was issued, so the bus rests. -/
theorem busRests_reset : BusRests State.reset where
  port := rfl
  clock := nofun
  phase := rfl

theorem sound_reset : State.reset.Sound := busRests_reset.sound_idle rfl rfl rfl

/-- An idle block relies on no validity bit. -/
theorem dataReady_of_idle {s : State} (h : s.seq = .idle) : s.dataReady = true := by
  rw [State.dataReady, h]

/-- While TA has not been computed the gate asks that its bit be 0 (R212). -/
theorem gated_of_not_computed {s : State} (hvalid : s.taValid = false) (hshown : s.taShown = false) : s.gated := by
  rw [State.gated, hvalid, hshown, Bool.false_and]

/-- Before the first emission the counter is 0, and OUT_ENC is not constrained. -/
theorem emissionsAgree_of_none {s : State} (hcount : s.frameCount = 0#32) (hnone : emissions s.trace = []) :
    s.emissionsAgree := by
  rw [State.emissionsAgree, hcount, hnone]
  exact ⟨rfl, nofun⟩

/-- Settles O54: nothing is stored, open, computed or emitted, and the block is idle. -/
theorem resetMeetsInvariants : Obligations.ResetMeetsInvariants :=
  ⟨memCanonical_reset.1, memCanonical_reset.2, sound_reset, dataReady_of_idle rfl, gated_of_not_computed rfl rfl,
    emissionsAgree_of_none rfl rfl⟩

end Sys2Proof.Proofs
end

section
/-! The spec's own words and frames: the legal ones are the encodings of their instructions, so they decode back to them,
and the illegal one is a trim word whose B is not 0 (spec/95_test_vectors.md V-DEC, E10). -/

namespace Sys2Proof.Proofs

open Sys2Proof.Machine

variable {w : Word}

/-- A trim word uses no B, so one whose B is not 0 is illegal (R93, R94). -/
theorem decodeCommand_trim_of_bField_ne (hr : rsvdField w = 0#8) (hop : opField w = 0x04#8) (hb : bField w ≠ 0#8) :
    decodeCommand w = .error .unusedField := by
  rw [decodeCommand, if_neg (not_not.2 hr), if_pos hop, if_pos hb]

/-- Settles O4: each legal word or frame is an encoding, and decoding inverts it; the check byte of 0x5A is 0xB0. -/
theorem specWordsDecode : Obligations.SpecWordsDecode :=
  ⟨decodeCommand_encodeWord (i := .writeTrim 0x5A#8) rfl,
    decodeCommand_encodeWord (i := .writeConfig 0x3E#8 0x74#8) rfl,
    decodeCommand_encodeWord (i := .setRefreshRate 8#16) rfl,
    decodeCommand_encodeWord (i := .computeFrame) rfl,
    decodeCommand_trim_of_bField_ne (by decide) (by decide) (by decide),
    decodeFrame_bytes .cfgRead,
    decodeFrame_bytes (trimOp 0x5A#8)⟩

end Sys2Proof.Proofs
end
